-- ==== Sys2Proof/Word.lean ====
section
/-! DEFINITION. The word types of the ZT3208 (00_scope.md, Conventions): what the manual adds, shifts or masks is a
bit vector, what it counts or names is not. -/

namespace Sys2Proof

/-- One byte of host memory. -/
abbrev Byte := BitVec 8

/-- A tag (R41). -/
abbrev Tag := BitVec 16

/-- A device time, a 48-bit count of ticks that wraps (00 scope, Time; R1). -/
abbrev Time := BitVec 48

/-- A 32-bit value: a parameter of a record, an extra field, a register. -/
abbrev W32 := BitVec 32

/-- A line mask or a level set: bit n stands for line Ln (00 scope, Names). -/
abbrev Mask := BitVec 32

/-- A byte address of host memory (00 scope, Numbers and bytes). -/
abbrev Addr := BitVec 64

/-- A 32-byte record as it stands in host memory, byte 0 in the least significant bits (12, opening paragraph). -/
abbrev Record := BitVec 256

/-- A stream: the number k stands for S(k+1). -/
abbrev StreamId := Fin 8

/-- A line: the number k stands for Lk. -/
abbrev LineId := Fin 32

/-- A pattern player: the number k stands for Pk. -/
abbrev PlayerId := Fin 4

/-- A completion queue: the number k stands for CQk. -/
abbrev CqId := Fin 4

/-- S1 to S8 in ascending order. -/
def allStreams : List StreamId := [0, 1, 2, 3, 4, 5, 6, 7]

/-- L0 to L31 in ascending order. -/
def allLines : List LineId :=
  [0, 1, 2, 3, 4, 5, 6, 7, 8, 9, 10, 11, 12, 13, 14, 15, 16, 17, 18, 19, 20, 21, 22, 23, 24, 25, 26, 27, 28, 29, 30, 31]

/-- P0 to P3 in ascending order. -/
def allPlayers : List PlayerId := [0, 1, 2, 3]

/-- CQ0 to CQ3 in ascending order. -/
def allQueues : List CqId := [0, 1, 2, 3]

end Sys2Proof
end

