-- ==== Sys2Proof/Config.lean ====
section
/-! DEFINITION. The sizes and fixed values that the manual gives the part. Nothing here is left open by the manual but
`periodsPerMicrosecond` (log 6) and the bound `settleFuel` (log 21). -/

namespace Sys2Proof.Config

/-- The horizon, 2^46 ticks (00 scope, Time; R3). -/
def horizon : Nat := 70368744177664

/-- The number of device times, 2^48 (R1). -/
def timeModulus : Nat := 281474976710656

/-- A re-insertion after an expiry lands less than 2^32 ticks ahead of now (R18). -/
def reinsertionReach : Nat := 4294967296

/-- Places of the calendar (R19). -/
def calendarPlaces : Nat := 512

/-- Places of the holding buffer (R142). -/
def holdingPlaces : Nat := 64

/-- Slots of the read table (R169). -/
def readSlots : Nat := 8

/-- Places of a prefetch buffer and of the control buffer (R121, R159). -/
def prefetchPlaces : Nat := 4

/-- The gap count at which the monitor takes a gap (R6). -/
def gapLimit : Nat := 64

/-- The qualification count at which a returning reference is present (R7). -/
def qualificationLimit : Nat := 4096

/-- The fixed timeout of the bootstrap read, in microseconds (R152). -/
def bootTimeout : Nat := 65535

/-- Periods of the internal oscillator in one microsecond, at its nominal 100 MHz (00 scope, Time).
DEDUCED, unsafe: the tolerance of 10.5 is left out (log 6). -/
def periodsPerMicrosecond : Nat := 100

/-- The identifier of a bootstrap block (12.4). -/
def bootIdentifier : Nat := 0x5A423208

/-- The value of the register ID (12.11). -/
def idValue : W32 := 0x32080001

/-- The greatest value of a 32-bit field, at which wider counts are reported (R175). -/
def max32 : Nat := 4294967295

/-- How many urgent internal events are taken before a command at most (log 21): more than one event can leave. -/
def settleFuel : Nat := 4096

end Sys2Proof.Config
end

