-- ==== Sys2Proof/Syntax.lean ====
section
/-! DEFINITION. The commands of the ZT3208: one constructor for each row of spec/opcode_table.json. A command is one
event at one block. Its operands are what comes from outside the part: a register value or index, the data or the status
of a bus response, the level of a pin; or which stream, line, queue, read or write the event is about. -/

namespace Sys2Proof

/-- The commands, in the table's order. -/
inductive Instr where
  /-- TICK (R1): the divider count reaches the prescale. -/
  | tick
  /-- REF_GAP (R6): the gap count reaches 64. -/
  | refGap
  /-- REF_QUALIFIED (R7): the qualification count reaches 4096. -/
  | refQualified
  /-- SET_EXPIRY (R27): the head of the calendar, a SET entry due now, expires. -/
  | setExpiry
  /-- PULSE_EXPIRY (R28). -/
  | pulseExpiry
  /-- TRAIN_EXPIRY (R29). -/
  | trainExpiry
  /-- MARKER_REACHED (R30). -/
  | markerReached
  /-- PATTERN_STEP_EXPIRY (R107, R109, R110). -/
  | patternStepExpiry
  /-- CAPTURE_END (R88). -/
  | captureEnd
  /-- ARM_TIMEOUT (R96). -/
  | armTimeout
  /-- EDGE_EVENT (R77): the filter of the line accepts a change; `armsFirst` says which of capture context and arm
  waits takes the edge first (R95). -/
  | edgeEvent (line : LineId) (armsFirst : Bool)
  /-- ARM_FIRED (R95): the arm wait of the stream takes the edge handed to it. -/
  | armFired (stream : StreamId)
  /-- COALESCING_TIMEOUT (R147). -/
  | coalescingTimeout (queue : CqId)
  /-- READ_GRANT (R170). -/
  | readGrant
  /-- READ_DATA_RETURN (R169): the data of the read with this identity, byte at the lowest address first. -/
  | readDataReturn (identity : Nat) (data : List Byte)
  /-- READ_BUS_ERROR (R169). -/
  | readBusError (identity : Nat)
  /-- READ_TIMEOUT (R169). -/
  | readTimeout (identity : Nat)
  /-- COMPLETION_WRITE_ISSUE (R143). -/
  | completionWriteIssue
  /-- WRITE_SUCCESS (R140): a success response to a completion write. -/
  | writeSuccess (identity : Nat)
  /-- WRITE_BUS_ERROR (R146): a bus error response to a completion write. -/
  | writeBusError (identity : Nat)
  /-- WRITE_TIMEOUT (R171): a write of either kind runs out its timeout. -/
  | writeTimeout (identity : Nat)
  /-- QUERY_CONSUMED (R162). -/
  | queryConsumed
  /-- NOP (R53): the stream admits the NOP at the head of its prefetch buffer. -/
  | nop (stream : StreamId)
  /-- SET (R54). -/
  | set (stream : StreamId)
  /-- PULSE (R55). -/
  | pulse (stream : StreamId)
  /-- TRAIN (R56). -/
  | train (stream : StreamId)
  /-- MARKER (R57). -/
  | marker (stream : StreamId)
  /-- ANCHOR (R58). -/
  | anchor (stream : StreamId)
  /-- WAIT (R59). -/
  | wait (stream : StreamId)
  /-- BARRIER_PASS (R60). -/
  | barrierPass (stream : StreamId)
  /-- CANCEL (R61). -/
  | cancel (stream : StreamId)
  /-- CLAIM (R70). -/
  | claim (stream : StreamId)
  /-- RELEASE (R72). -/
  | release (stream : StreamId)
  /-- RELEASE_COMPLETE (R73). -/
  | releaseComplete (stream : StreamId)
  /-- CAPTURE (R84). -/
  | capture (stream : StreamId)
  /-- ARM (R94). -/
  | arm (stream : StreamId)
  /-- PATTERN (R104). -/
  | pattern (stream : StreamId)
  /-- STREAM_BAD_KIND (R46). -/
  | streamBadKind (stream : StreamId)
  /-- SPACE_GRANT (R23). -/
  | spaceGrant
  /-- PLAYER_GRANT (R103). -/
  | playerGrant
  /-- STREAM_STOPPED (R133). -/
  | streamStopped (stream : StreamId)
  /-- TEARDOWN_COMPLETE (R155). -/
  | teardownComplete
  /-- C_NOP (R161): the control ring processor takes the C_NOP at the head of the control buffer. -/
  | cNop
  /-- TIME_CONFIG (R10). -/
  | timeConfig
  /-- TIME_SET (R11). -/
  | timeSet
  /-- TIME_STEP (R12). -/
  | timeStep
  /-- TIME_RUN (R4). -/
  | timeRun
  /-- TIME_HOLD (R5). -/
  | timeHold
  /-- CONFIGURE_STREAM (R118). -/
  | configureStream
  /-- CONFIGURE_CQ (R138). -/
  | configureCq
  /-- CONFIGURE_LINE (R67): `level` is the level at the pin of the line named by the record, the sample of R69. -/
  | configureLine (level : Bool)
  /-- SET_THRESHOLD (R119). -/
  | setThreshold
  /-- QUERY (R162). -/
  | query
  /-- CONTROL_BAD_KIND (R160). -/
  | controlBadKind
  /-- FAILED_PLACE (R160). -/
  | failedPlace
  /-- ENABLE (R151): CONTROL written with ENABLE 1 and RESET 0. -/
  | enable
  /-- DISABLE (R154): CONTROL written with ENABLE 0 and RESET 0. -/
  | disable
  /-- SOFT_RESET (R156): CONTROL written with RESET 1. -/
  | softReset
  /-- PIN_RESET (R157): RESET_N goes low. -/
  | pinReset
  /-- RESET_N_RISE (R14, R157). -/
  | resetNRise
  /-- CONTROL_RING_TAIL_WRITE (R158): QUEUE_INDEX written with selector 0. -/
  | controlRingTailWrite (index : BitVec 12)
  /-- TAIL_WRITE (R120): QUEUE_INDEX written with selector 1 to 8. -/
  | tailWrite (stream : StreamId) (index : BitVec 12)
  /-- HEAD_WRITE (R141): QUEUE_INDEX written with selector 16 to 19. -/
  | headWrite (queue : CqId) (index : BitVec 12)
  /-- INVALID_SELECTOR (R165): QUEUE_INDEX written with a word that names no ring. -/
  | invalidSelector (word : W32)
  /-- START (R131): the bit of the stream in a write of STREAM_START. -/
  | start (stream : StreamId)
  /-- STOP (R132): the bit of the stream in a write of STREAM_STOP. -/
  | stop (stream : StreamId)
  /-- ATTN_CLEAR (R148): a write of 1 to EVENT CQn_ATTN. -/
  | attnClear (queue : CqId)
  /-- EVENT_CLEAR (R167): a write of EVENT. -/
  | eventClear (word : W32)
  /-- EVENT_MASK_WRITE (R168). -/
  | eventMaskWrite (word : W32)
  /-- TIME_LO_READ (R13). -/
  | timeLoRead
  /-- REGISTER_WRITE (R164): the host writes `size` bytes at byte offset `offset` of the window. -/
  | registerWrite (offset : Nat) (size : Nat) (word : W32)
  /-- REFERENCE_EDGE (R7): one rising edge of the reference clock. -/
  | referenceEdge
  /-- INPUT_SAMPLE (R76): the pin of the line is sampled at `level`; `armsFirst` as for EDGE_EVENT. -/
  | inputSample (line : LineId) (level : Bool) (armsFirst : Bool)
  /-- SNAPSHOT_WRITE_RESPONSE (R162): a response to a snapshot write, a success or a bus error. -/
  | snapshotWriteResponse (identity : Nat) (success : Bool)
deriving DecidableEq, Repr

end Sys2Proof
end

