-- ==== Sys2Proof/Decode.lean ====
section
/-! DEFINITION. No row of spec/opcode_table.json gives bits (98_reader.md: n_rows_with_fixed 0), so no word spells a
command. The one word that selects among commands by its bits, a word written to QUEUE_INDEX, is decoded here; the
layouts of records, blocks and steps stand in Machine/Operands.lean. -/

namespace Sys2Proof

/-- The selector field of a QUEUE_INDEX word, bits 20 to 16 (12.11). -/
def selectorOf (word : W32) : Nat := (word.extractLsb' 16 5).toNat

/-- The index field of a QUEUE_INDEX word, bits 11 to 0 (12.11). -/
def indexOf (word : W32) : BitVec 12 := word.extractLsb' 0 12

/-- A selector of QUEUE_INDEX that names a ring (R165). -/
def selectorValid (sel : Nat) : Bool :=
  decide (sel ≤ 8) || (decide (16 ≤ sel) && decide (sel ≤ 19))

/-- A QUEUE_INDEX word with no bit set outside the selector and index fields (R165). -/
def queueIndexClean (word : W32) : Bool := word &&& 0xFFE0F000#32 == 0#32

/-- A QUEUE_INDEX word that names a ring and has no other bit set (R165). -/
def queueIndexValid (word : W32) : Bool := selectorValid (selectorOf word) && queueIndexClean word

/-- The command that a word spells by the table's bits: none, since the table gives no row bits. -/
def decodeTableWord (_nbits _w : Nat) : Option Instr := none

end Sys2Proof
end

