-- ==== Sys2Proof/WellFormed.lean ====
section
/-! DEFINITION. Which commands the outside world can send. The types of the operands bound the numbers of streams,
lines, players and queues; what they do not bound is checked here. `exec` is total all the same: a command that is no
event of the part changes nothing (log 2). -/

namespace Sys2Proof

/-- A read brings 8 to 128 bytes (10.3), a register write is an access of 1, 2 or 4 bytes, and the word of an
INVALID_SELECTOR is one that R165 calls invalid. Which widths the host bus can make R164 does not say; 1, 2 and 4 are the
model's choice (DESIGN CHOICE, log 35). -/
def Instr.wellFormed : Instr → Bool
  | .readDataReturn _ data => decide (8 ≤ data.length) && decide (data.length ≤ 128)
  | .registerWrite _ size _ => size == 1 || size == 2 || size == 4
  | .invalidSelector word => !queueIndexValid word
  | _ => true

end Sys2Proof
end

