-- ==== Sys2Proof/Machine/State.lean ====
section
/-! DEFINITION. The state of the part, block by block, as plain data, and the state right after reset. The numbers that
the manual derives from other state (free count, held counts, watch counts, STATUS, STREAM_ACTIVE, the pins, INT_N) are
functions of it (Machine/Ops.lean, Machine/Flags.lean; log 14). -/

namespace Sys2Proof.Machine

/-- Why a step could stop with a fault: the manual gives the part no fault of its own. -/
inductive Fault where
  /-- Raised by no command: every event of the manual leads to a next state. Safe. -/
  | neverRaised
deriving DecidableEq, Repr

/-- Why a command could have no meaning here. -/
inductive Refusal where
  /-- A command with no meaning yet: raised by no arm of `exec`. Safe. -/
  | notModelled (mnemonic : String)
deriving DecidableEq, Repr

/-! ## Timebase (chapter 1) -/

/-- The timebase states (1.3). -/
inductive TbMode where
  | held | running | lost
deriving DecidableEq, Repr

/-- Timebase and reference monitor (the table of chapter 1). -/
structure Timebase where
  /-- Device time, *now* (R1). -/
  now : Time
  /-- Prescale P, 1 to 256 (R10). -/
  prescale : Nat
  /-- Divider count, 0 to P − 1 (R1). -/
  divider : Nat
  mode : TbMode
  /-- The reference-present flag (R6, R7). -/
  present : Bool
  /-- Gap count, 0 to 64 (R6). -/
  gap : Nat
  /-- Qualification count, 0 to 4096 (R7). -/
  qual : Nat
  /-- TIME_HI latch (R13). -/
  timeHi : BitVec 16
deriving DecidableEq, Repr

/-- The values of R14 after a pin reset and a soft reset. -/
def Timebase.reset : Timebase :=
  { now := 0, prescale := 1, divider := 0, mode := .held, present := false, gap := 0, qual := 0, timeHi := 0 }

/-! ## Calendar (chapter 2) -/

/-- The kinds of calendar entry (R15). -/
inductive EntryKind where
  | set | pulse | train | marker | patternStep | captureEnd | armDeadline
deriving DecidableEq, Repr

/-- The phase of a PULSE or TRAIN entry (R15). -/
inductive Phase where
  | start | ending
deriving DecidableEq, Repr

/-- The phase part of an entry (R15). -/
structure PhasePart where
  phase : Phase
  /-- Width, 1 to 2^32 − 1 ticks. -/
  width : Nat
deriving DecidableEq, Repr

/-- The train part of an entry (R15). -/
structure TrainPart where
  /-- Period, 2 to 2^32 − 1 ticks. -/
  period : Nat
  /-- Count remaining; 0 means endless. -/
  remaining : Nat
  /-- Pulses driven, kept without limit. -/
  driven : Nat
  /-- Pulses missed, kept without limit. -/
  missed : Nat
  /-- Grid origin. -/
  origin : Time
deriving DecidableEq, Repr

/-- What a CAPTURE_END or ARM_DEADLINE entry stands for (R15): the capture context of a line, or the arm wait of the
entry's stream. -/
inductive ContextRef where
  | capture (line : LineId)
  | armWait
deriving DecidableEq, Repr

/-- A calendar entry (R15). -/
structure Entry where
  kind : EntryKind
  stream : StreamId
  /-- Priority, copied at the first insertion. -/
  prio : Nat
  tag : Tag
  due : Time
  lines : Mask
  levels : Mask
  notify : Bool
  window : Nat
  lateRun : Bool
  lateMark : Bool
  phase : Option PhasePart
  train : Option TrainPart
  player : Option PlayerId
  context : Option ContextRef
deriving DecidableEq, Repr

/-- A freeing report, made and not yet tested against the stream's barrier (R21). -/
structure Report where
  kind : EntryKind
  stream : StreamId
  tag : Tag
  lines : Mask
deriving DecidableEq, Repr

/-! ## Completions (chapter 8) -/

/-- The source of a completion (R136). -/
inductive Source where
  | control
  | stream (n : StreamId)
  | device
deriving DecidableEq, Repr

/-- The statuses of a completion (R136). -/
inductive Status where
  | done | lateDone | lateSkipped | cancelled | cancelDone | markerReached | nopDone | captureEdge | captureDone
  | armFired | armTimeout | underrun | fetchError | timeStepped | streamHalted | streamStopped | overflow | refLost
  | refRestored | controlDone | controlRefused
deriving DecidableEq, Repr

/-- The refusal codes (12.9). -/
inductive RefusalCode where
  | badKind | badField | notOwner | lineMode | horizon | claimConflict | captureBusy | badTail | streamBusy | cqBusy
  | lineBusy | busError
deriving DecidableEq, Repr

/-- A completion record but for its phase, which is written as it goes to its slot (R136). -/
structure Completion where
  source : Source
  /-- The kind byte of the originating record, 0 for none (R175). -/
  kind : Byte
  status : Status
  tag : Tag
  time : Time
  line : Nat
  head : Nat
  rising : Bool
  frozen : Bool
  /-- First extra field. -/
  x1 : W32
  /-- Second extra field. -/
  x2 : W32
deriving DecidableEq, Repr

/-- An element of the holding buffer (R142), with its overflow prefix: the count and the device time at which the prefix
was attached (R144, R145). -/
structure Held where
  queue : CqId
  completion : Completion
  overflow : Option (W32 × Time)
deriving DecidableEq, Repr

/-- The completion write whose response has not arrived (R143). -/
structure Outstanding where
  /-- The identity of its write in the write path. -/
  identity : Nat
  queue : CqId
  /-- The count, when the write is that of an OVERFLOW (R145). -/
  overflow : Option W32
deriving DecidableEq, Repr

/-- The states of a completion queue (R137). -/
inductive QueueState where
  | unconfigured | active | faulted
deriving DecidableEq, Repr

/-- A queue context (R137). The attention and fault bits stand in EVENT. -/
structure Queue where
  state : QueueState
  base : Addr
  size : Nat
  /-- Device tail. -/
  tail : Nat
  /-- Host head. -/
  head : Nat
  phase : Bool
  /-- Lost count, saturating at FFFF_FFFFh. -/
  lost : Nat
  /-- Count threshold C. -/
  countThreshold : Nat
  /-- Time threshold T, in microseconds. -/
  timeThreshold : Nat
  /-- Unsignalled count u, saturating at 255. -/
  unsignalled : Nat
  /-- The coalescing timer: stopped, or its elapsed time in periods of the internal oscillator. -/
  timer : Option Nat
deriving DecidableEq, Repr

/-- The values of R150. -/
def Queue.reset : Queue :=
  { state := .unconfigured, base := 0, size := 0, tail := 0, head := 0, phase := true, lost := 0, countThreshold := 0,
    timeThreshold := 0, unsignalled := 0, timer := none }

/-! ## Lines and captures (chapters 4 and 5) -/

/-- The modes of a line (R65). -/
inductive LineMode where
  | unassigned | output | input
deriving DecidableEq, Repr

/-- The edges a capture or an arm wait takes (R82, R92). -/
inductive EdgeSelect where
  | rising | falling | both
deriving DecidableEq, Repr

/-- A capture context, held at its line's capture reference (R82). -/
structure Capture where
  stream : StreamId
  tag : Tag
  edges : EdgeSelect
  /-- Count limit; 0 for none. -/
  limit : Nat
  /-- Edges captured, kept without limit. -/
  captured : Nat
  /-- Missed edges since the last CAPTURE_EDGE, kept without limit. -/
  missed : Nat
  notify : Bool
deriving DecidableEq, Repr

/-- An entry of the line table (the table of chapter 4). -/
structure Line where
  mode : LineMode
  owner : Option StreamId
  /-- Output level. -/
  out : Bool
  /-- Safe level. -/
  safe : Bool
  /-- Filter length F, 0 to 15. -/
  filterLength : Nat
  /-- Filtered level. -/
  filtered : Bool
  /-- Agreement count, 0 to F. -/
  agree : Nat
  /-- A sample has been taken in the present period of the internal oscillator (R75; the model's own mark, log 37). -/
  sampled : Bool
  /-- Capture reference. -/
  capture : Option Capture
deriving DecidableEq, Repr

/-- The values of R79; the mark `sampled` is clear (log 37). -/
def Line.reset : Line :=
  { mode := .unassigned, owner := none, out := false, safe := false, filterLength := 0, filtered := false, agree := 0,
    sampled := false, capture := none }

/-- An arm wait, held by its stream (R92). -/
structure ArmWait where
  line : LineId
  tag : Tag
  edges : EdgeSelect
  notify : Bool
  /-- Timeout policy: set for halt, clear for resume. -/
  haltOnTimeout : Bool
deriving DecidableEq, Repr

/-- An edge event handed to the arm wait of a stream and not yet taken by it (R77, R95; log 17). -/
structure HandedEdge where
  stream : StreamId
  rising : Bool
  time : Time
  frozen : Bool
deriving DecidableEq, Repr

/-! ## Players (chapter 6) -/

/-- The state of an issuer's one read (R100, R116, 9). A read in flight carries its number of records or steps. -/
inductive Request where
  | idle
  | pending
  | inFlight (count : Nat)
deriving DecidableEq, Repr

/-- The states of a player (R100). -/
inductive PlayerState where
  | free | priming | playing | retiring
deriving DecidableEq, Repr

/-- A fetched step with its last-of-pass mark (R100, R105). -/
structure Step where
  hold : Nat
  levels : BitVec 8
  last : Bool
deriving DecidableEq, Repr

/-- A pattern player (R100). Its calendar entry is the one that names it. -/
structure Player where
  state : PlayerState
  stream : Option StreamId
  tag : Tag
  /-- Table address. -/
  table : Addr
  /-- Step count N. -/
  steps : Nat
  /-- Repeat count R. -/
  repeats : Nat
  lines : Mask
  /-- Rest levels. -/
  rest : Mask
  buffer : List Step
  /-- Fetch cursor. -/
  cursor : Nat
  /-- Fetch passes begun. -/
  begun : Nat
  /-- Fetching is complete (R105). -/
  fetched : Bool
  /-- Steps applied. -/
  applied : Nat
  /-- Passes completed. -/
  completed : Nat
  /-- Next expiry is END, not STEP. -/
  nextEnd : Bool
  request : Request
  /-- Steps asked for by the request (R105). -/
  asked : Nat
deriving DecidableEq, Repr

/-- A FREE player (R100, R115). The fields that have no effect in FREE are held at 0 (log 23). -/
def Player.reset : Player :=
  { state := .free, stream := none, tag := 0, table := 0, steps := 0, repeats := 0, lines := 0, rest := 0, buffer := [],
    cursor := 0, begun := 0, fetched := false, applied := 0, completed := 0, nextEnd := false, request := .idle,
    asked := 0 }

/-! ## Streams (chapter 7) -/

/-- The states of a stream (R117). -/
inductive StreamState where
  | idle | running | waiting | halted | stopping
deriving DecidableEq, Repr

/-- The wait reasons (R126). -/
inductive WaitReason where
  | noWait | arm | barrier | release | space | player
deriving DecidableEq, Repr

/-- A stream context (R116), with its arm wait (R92). -/
structure Stream where
  configured : Bool
  base : Addr
  size : Nat
  prio : Nat
  quota : Nat
  target : CqId
  state : StreamState
  reason : WaitReason
  head : Nat
  tail : Nat
  /-- Prefetch buffer, the record at the head first. -/
  buffer : List Record
  request : Request
  /-- Discard mark of the read in flight. -/
  discard : Bool
  anchor : Time
  armWait : Option ArmWait
  /-- The count found by the waiting WAIT (R59) or RELEASE (R72). -/
  found : Nat
  /-- The captures ended by the waiting RELEASE (R73). -/
  ended : Nat
  /-- The count of work ended by the STOP (R132). -/
  stopCount : Nat
  /-- The lines given up by the STOP (R132). -/
  stopLines : Mask
deriving DecidableEq, Repr

/-- The values of R135; the discard mark, the counts of a wait and those of a STOP are held at 0 (log 23). -/
def Stream.reset : Stream :=
  { configured := false, base := 0, size := 0, prio := 0, quota := 0, target := 0, state := .idle, reason := .noWait,
    head := 0, tail := 0, buffer := [], request := .idle, discard := false, anchor := 0, armWait := none, found := 0,
    ended := 0, stopCount := 0, stopLines := 0 }

/-! ## Control ring processor (chapter 9) -/

/-- The device states (9.1). -/
inductive DeviceMode where
  | off | loading | on | failed | stopping
deriving DecidableEq, Repr

/-- An entry of the control buffer (R159). -/
inductive ControlEntry where
  | record (r : Record)
  /-- A place whose read failed: cause 1 for a bus error, 2 for a timeout. -/
  | failedPlace (cause : Nat)
deriving DecidableEq, Repr

/-- The QUERY in progress (R162). -/
structure Query where
  tag : Tag
  /-- Responses arrived. -/
  answered : Nat
  /-- Responses that reported a bus error. -/
  failures : Nat
deriving DecidableEq, Repr

/-- The control ring processor (the table of chapter 9). -/
structure Control where
  mode : DeviceMode
  base : Addr
  size : Nat
  head : Nat
  tail : Nat
  buffer : List ControlEntry
  request : Request
  query : Option Query
  /-- Read timeout, in microseconds. -/
  timeout : Nat
  /-- Bootstrap request. -/
  boot : Request
deriving DecidableEq, Repr

/-- The values of R163. -/
def Control.reset : Control :=
  { mode := .off, base := 0, size := 0, head := 0, tail := 0, buffer := [], request := .idle, query := none,
    timeout := 0, boot := .idle }

/-! ## Host port (chapter 10) -/

/-- The issuer of a read (R169). -/
inductive Issuer where
  | bootstrap
  | player (p : PlayerId)
  | control
  | stream (n : StreamId)
deriving DecidableEq, Repr

/-- A read of the read table (10.3). -/
structure Read where
  identity : Nat
  issuer : Issuer
  addr : Addr
  /-- Length in bytes. -/
  length : Nat
  /-- Timeout, in microseconds. -/
  timeout : Nat
  /-- Elapsed time, in periods of the internal oscillator. -/
  elapsed : Nat
  orphaned : Bool
deriving DecidableEq, Repr

/-- The issuer of a write (R171). -/
inductive Writer where
  | completion | snapshot
deriving DecidableEq, Repr

/-- A write of the write path whose response is awaited (R171). -/
structure Write where
  identity : Nat
  writer : Writer
  addr : Addr
  data : List Byte
  /-- Timeout, in microseconds. -/
  timeout : Nat
  /-- Elapsed time, in periods of the internal oscillator. -/
  elapsed : Nat
  /-- Outstanding at a soft reset: its ending is reported to no issuer (R156, R171). -/
  orphaned : Bool
deriving DecidableEq, Repr

/-- The registers of the window that hold state of their own (10.1), the level of RESET_N and the model's own
`readData`. -/
structure HostPort where
  /-- BOOT_ADDR_HI and BOOT_ADDR_LO. -/
  bootAddr : Addr
  event : W32
  eventMask : W32
  /-- The value the last register read returned (log 19). -/
  readData : W32
  /-- RESET_N is high. -/
  resetN : Bool
deriving DecidableEq, Repr

/-! ## The whole -/

/-- The part. -/
structure Device where
  tb : Timebase
  /-- The calendar, the head first (R16). -/
  calendar : List Entry
  /-- Freeing reports made and not yet tested, oldest first (R21). -/
  reports : List Report
  /-- An expiry instant has begun and is not over (R24, R25; log 16). -/
  instantOpen : Bool
  /-- The lines driven so far in the open instant (R25; log 16). -/
  stagedMask : Mask
  /-- Their levels. -/
  stagedLevels : Mask
  lines : Vector Line 32
  /-- Edge events handed to arm waits and not yet taken, oldest first (log 17). -/
  edges : List HandedEdge
  players : Vector Player 4
  streams : Vector Stream 8
  /-- Fetch threshold (R119). -/
  threshold : Nat
  /-- Holding buffer, the record that entered first first (R142). -/
  holding : List Held
  outstanding : Option Outstanding
  queues : Vector Queue 4
  ctl : Control
  host : HostPort
  /-- Read table (R169). -/
  reads : List Read
  /-- Write path: outstanding writes in issue order (R171). -/
  writes : List Write
  /-- Round-robin position of each priority (R170). -/
  roundRobin : Vector (Option StreamId) 8
  /-- The next transaction identity of a read (log 8). -/
  nextRead : Nat
  /-- The next identity of a write (log 8). -/
  nextWrite : Nat
deriving DecidableEq, Repr

/-- Every block at its values after pin reset (R14, R40, R79, R99, R115, R135, R150, R157, R163, R166 to R171), with
RESET_N high again. -/
def Device.reset : Device :=
  { tb := Timebase.reset, calendar := [], reports := [], instantOpen := false, stagedMask := 0, stagedLevels := 0,
    lines := Vector.replicate 32 Line.reset, edges := [], players := Vector.replicate 4 Player.reset,
    streams := Vector.replicate 8 Stream.reset, threshold := 0, holding := [], outstanding := none,
    queues := Vector.replicate 4 Queue.reset, ctl := Control.reset,
    host := { bootAddr := 0, event := 0, eventMask := 0, readData := 0, resetN := true }, reads := [], writes := [],
    roundRobin := Vector.replicate 8 none, nextRead := 0, nextWrite := 0 }

/-- The machine: the part, and the commands that wait, first in, first out (log 1). -/
structure State where
  dev : Device
  pending : List Instr
deriving DecidableEq, Repr

/-- The machine right after a pin reset, at the rise of RESET_N (R157), with no command waiting (log 22). -/
def State.reset : State := { dev := Device.reset, pending := [] }

end Sys2Proof.Machine
end

