-- ==== Sys2Proof/Machine/Operands.lean ====
section
/-! DEFINITION. The layouts of chapter 12: what the part reads out of records, blocks and steps, and how it writes
completion records and snapshots. Everything is little-endian (12, opening paragraph). -/

namespace Sys2Proof.Machine

/-! ## Bytes -/

/-- The unsigned number that a run of bytes holds, the byte at the lowest address least significant. -/
def leNat : List Byte → Nat
  | [] => 0
  | b :: bs => b.toNat + 256 * leNat bs

/-- A number written in `n` bytes. -/
def leBytes : Nat → Nat → List Byte
  | 0, _ => []
  | n + 1, v => BitVec.ofNat 8 v :: leBytes n (v / 256)

/-- The `n` bytes of `data` at byte offset `o`, as a number. -/
def bytesAt (data : List Byte) (o n : Nat) : Nat := leNat ((data.drop o).take n)

/-- Bytes `o` to `o + n − 1` of a record, as a number. -/
def fieldAt (r : Record) (o n : Nat) : Nat := (r.extractLsb' (8 * o) (8 * n)).toNat

/-- The records that a read of a ring brings, in ring order. -/
def recordsOf (data : List Byte) : Nat → List Record
  | 0 => []
  | n + 1 => BitVec.ofNat 256 (leNat (data.take 32)) :: recordsOf (data.drop 32) n

/-- A count reported in a 32-bit field (R175). -/
def sat32 (n : Nat) : W32 := BitVec.ofNat 32 (min n Config.max32)

/-! ## Masks -/

/-- Whether line `l` is in the mask. -/
def inMask (m : Mask) (l : LineId) : Bool := m.getLsbD l.val

/-- The lines of a mask in ascending order. -/
def linesOf (m : Mask) : List LineId := allLines.filter (inMask m)

/-- The number of the lowest line of a mask, 0 for none (R26). -/
def lowestLine (m : Mask) : Nat :=
  match linesOf m with
  | [] => 0
  | l :: _ => l.val

/-- The number of lines of a mask. -/
def lineCount (m : Mask) : Nat := (linesOf m).length

/-- The mask of one line. -/
def lineBit (l : LineId) : Mask := BitVec.ofNat 32 (2 ^ l.val)

/-- The mask of the lines that satisfy `p`. -/
def maskOf (p : LineId → Bool) : Mask :=
  (allLines.filter p).foldl (fun m l => m ||| lineBit l) 0

/-- The level set of a pattern step: the k-th lowest line of the pattern takes bit k (12.5). -/
def spreadLevels (m : Mask) (levels : BitVec 8) : Mask :=
  ((linesOf m).zipIdx.filter (fun p => levels.getLsbD p.2)).foldl (fun acc p => acc ||| lineBit p.1) 0

/-! ## The stream record (12.1) -/

namespace StreamRecord

/-- Byte 0. -/
def kind (r : Record) : Byte := r.extractLsb' 0 8

/-- Byte 1. -/
def flags (r : Record) : Byte := r.extractLsb' 8 8

/-- Bytes 2 and 3. -/
def tag (r : Record) : Tag := r.extractLsb' 16 16

/-- Byte 4: 0 ABS, 1 REL, 2 REL_ADV. -/
def timeRef (r : Record) : Nat := fieldAt r 4 1

/-- Byte 5: repeat count of a PATTERN. -/
def repeats (r : Record) : Nat := fieldAt r 5 1

/-- Bytes 6 and 7. -/
def window (r : Record) : Nat := fieldAt r 6 2

/-- Bytes 8 to 13. -/
def time (r : Record) : Time := r.extractLsb' 64 48

/-- Bytes 14 and 15. -/
def short (r : Record) : BitVec 16 := r.extractLsb' 112 16

/-- Bytes 16 to 19. -/
def lines (r : Record) : Mask := r.extractLsb' 128 32

/-- Bytes 20 to 23. -/
def levels (r : Record) : Mask := r.extractLsb' 160 32

/-- Bytes 24 to 27. -/
def paramA (r : Record) : W32 := r.extractLsb' 192 32

/-- Bytes 28 to 31. -/
def paramB (r : Record) : W32 := r.extractLsb' 224 32

/-- Flag bit 0, NOTIFY. -/
def notify (r : Record) : Bool := (flags r).getLsbD 0

/-- Flag bit 1, LATE_RUN. -/
def lateRun (r : Record) : Bool := (flags r).getLsbD 1

/-- Flag bit 2, FINISH. -/
def finish (r : Record) : Bool := (flags r).getLsbD 2

/-- Flag bit 3, TIMEOUT_HALT. -/
def timeoutHalt (r : Record) : Bool := (flags r).getLsbD 3

/-- Flag bit 4, NO_END. -/
def noEnd (r : Record) : Bool := (flags r).getLsbD 4

/-- The table address of a PATTERN: parameter B above parameter A (R101). -/
def table (r : Record) : Addr := paramB r ++ paramA r

end StreamRecord

/-- The stream kinds (12.7). -/
inductive StreamKind where
  | nop | set | pulse | train | marker | pattern | capture | arm | anchor | wait | claim | release | cancel
deriving DecidableEq, Repr

/-- The kind bytes of the stream kinds (12.7). -/
def streamKindCode : StreamKind → Byte
  | .nop => 0x01 | .set => 0x02 | .pulse => 0x03 | .train => 0x04 | .marker => 0x05 | .pattern => 0x06
  | .capture => 0x07 | .arm => 0x08 | .anchor => 0x09 | .wait => 0x0A | .claim => 0x0B | .release => 0x0C
  | .cancel => 0x0D

/-- The stream kind that a kind byte names; none is refused with BAD_KIND (R46, 12.7). -/
def streamKindOf (b : Byte) : Option StreamKind :=
  match b.toNat with
  | 0x01 => some .nop | 0x02 => some .set | 0x03 => some .pulse | 0x04 => some .train | 0x05 => some .marker
  | 0x06 => some .pattern | 0x07 => some .capture | 0x08 => some .arm | 0x09 => some .anchor | 0x0A => some .wait
  | 0x0B => some .claim | 0x0C => some .release | 0x0D => some .cancel
  | _ => none

/-- The flags a kind accepts (R42), as bits of byte 1. -/
def acceptedFlags : StreamKind → Byte
  | .nop | .anchor | .wait | .claim | .release => 0b00001
  | .set | .pulse | .train | .marker | .pattern => 0b00011
  | .cancel => 0b00101
  | .capture => 0b10001
  | .arm => 0b11001

/-- The greatest time reference a kind accepts for a record that carries a time: 1 when REL_ADV is not accepted, 0 for
the kinds that carry no time (R44, R45, R58, R83, R93). -/
def timeRefLimit : StreamKind → Nat
  | .set | .pulse | .train | .marker | .pattern | .capture => 2
  | .anchor | .arm => 1
  | .nop | .wait | .cancel | .claim | .release => 0

/-- Whether the record carries no time: the kinds without one (R44), and a CAPTURE or ARM with NO_END (R83, R93). -/
def carriesNoTime (k : StreamKind) (r : Record) : Bool :=
  match k with
  | .nop | .wait | .cancel | .claim | .release => true
  | .capture | .arm => StreamRecord.noEnd r
  | .set | .pulse | .train | .marker | .pattern | .anchor => false

/-- The time reference and time of R47, R83 and R93: ABS with time 0 for a record that carries no time. -/
def timeFieldOk (k : StreamKind) (r : Record) : Bool :=
  if carriesNoTime k r then StreamRecord.timeRef r == 0 && StreamRecord.time r == 0
  else decide (StreamRecord.timeRef r ≤ timeRefLimit k)

/-- The window field: any for the timed actions, zero for the other kinds (R47, R70, R71, R83, R93, R101). -/
def windowFieldOk (k : StreamKind) (r : Record) : Bool :=
  match k with
  | .set | .pulse | .train | .marker | .pattern => true
  | .nop | .anchor | .wait | .cancel | .claim | .release | .capture | .arm => StreamRecord.window r == 0

/-- The lines field (R47, R70, R71, R83, R93, R101). -/
def linesFieldOk (k : StreamKind) (r : Record) : Bool :=
  match k with
  | .set | .pulse | .train | .claim | .release => StreamRecord.lines r != 0
  | .capture | .arm => lineCount (StreamRecord.lines r) == 1
  | .pattern => decide (1 ≤ lineCount (StreamRecord.lines r)) && decide (lineCount (StreamRecord.lines r) ≤ 8)
  | .nop | .marker | .anchor | .wait | .cancel => StreamRecord.lines r == 0

/-- The levels field (R47, R101). -/
def levelsFieldOk (k : StreamKind) (r : Record) : Bool :=
  match k with
  | .set | .pulse | .train | .pattern => true
  | .nop | .marker | .anchor | .wait | .cancel | .claim | .release | .capture | .arm => StreamRecord.levels r == 0

/-- The short parameter (R47, R83, R93, R101). -/
def shortFieldOk (k : StreamKind) (r : Record) : Bool :=
  match k with
  | .train | .wait | .cancel => true
  | .capture | .arm =>
    decide (1 ≤ (StreamRecord.short r).toNat) && decide ((StreamRecord.short r).toNat ≤ 3)
  | .pattern => decide (1 ≤ (StreamRecord.short r).toNat)
  | .nop | .set | .pulse | .marker | .anchor | .claim | .release => StreamRecord.short r == 0

/-- Parameters A and B (R47, R83, R93, R101). -/
def paramsOk (k : StreamKind) (r : Record) : Bool :=
  let a := (StreamRecord.paramA r).toNat
  let b := (StreamRecord.paramB r).toNat
  match k with
  | .pulse => decide (1 ≤ a) && b == 0
  | .train => decide (2 ≤ b) && decide (1 ≤ a) && decide (a < b)
  | .capture => b == 0
  | .pattern =>
    (StreamRecord.table r).toNat % 8 == 0 &&
      decide ((StreamRecord.table r).toNat + 8 * (StreamRecord.short r).toNat ≤ 2 ^ 64)
  | .nop | .set | .marker | .anchor | .wait | .cancel | .claim | .release | .arm => a == 0 && b == 0

/-- Byte 5: the repeat count of a PATTERN, 1 to 255; reserved for every other kind (12.1, R101). -/
def repeatsOk (k : StreamKind) (r : Record) : Bool :=
  match k with
  | .pattern => decide (1 ≤ StreamRecord.repeats r)
  | .nop | .set | .pulse | .train | .marker | .capture | .arm | .anchor | .wait | .claim | .release | .cancel =>
    StreamRecord.repeats r == 0

/-- An ARM without a deadline has TIMEOUT_HALT clear (R93). -/
def armPolicyOk (k : StreamKind) (r : Record) : Bool :=
  match k with
  | .arm => !(StreamRecord.noEnd r && StreamRecord.timeoutHalt r)
  | _ => true

/-- Stage 2 of admission: the fields of the record against its kind (R42, R47, R70, R71, R83, R93, R101, R174). -/
def fieldsOk (k : StreamKind) (r : Record) : Bool :=
  StreamRecord.flags r &&& ~~~ acceptedFlags k == 0 && timeFieldOk k r && windowFieldOk k r && linesFieldOk k r &&
    levelsFieldOk k r && shortFieldOk k r && paramsOk k r && repeatsOk k r && armPolicyOk k r

/-- The edges selected by a short parameter (12.1). -/
def edgeSelectOf (n : Nat) : EdgeSelect :=
  match n with
  | 1 => .rising
  | 2 => .falling
  | _ => .both

/-- Whether a selection takes an edge of this direction (R85, R95). -/
def takesEdge (e : EdgeSelect) (rising : Bool) : Bool :=
  match e with
  | .rising => rising
  | .falling => !rising
  | .both => true

/-- A tag match (R43): `tag` against the value `v` and the mask `m`. -/
def tagMatch (tag v m : Tag) : Bool := tag &&& m == v &&& m

/-! ## The control record (12.2) -/

/-- The control kinds (12.7). -/
inductive ControlKind where
  | cNop | timeConfig | timeSet | timeStep | timeRun | timeHold | configureStream | configureCq | configureLine
  | setThreshold | query
deriving DecidableEq, Repr

/-- The control kind that a kind byte names; none is refused with BAD_KIND (R160, 12.7). -/
def controlKindOf (b : Byte) : Option ControlKind :=
  match b.toNat with
  | 0x20 => some .cNop | 0x21 => some .timeConfig | 0x22 => some .timeSet | 0x23 => some .timeStep
  | 0x24 => some .timeRun | 0x25 => some .timeHold | 0x26 => some .configureStream | 0x27 => some .configureCq
  | 0x28 => some .configureLine | 0x29 => some .setThreshold | 0x2A => some .query
  | _ => none

/-- The bytes that the row of a kind in 12.2 names, kind and tag among them; every other byte is reserved. -/
def namedByte (k : ControlKind) (i : Nat) : Bool :=
  i == 0 || i == 2 || i == 3 ||
    match k with
    | .cNop | .timeRun | .timeHold => false
    | .timeConfig => i == 16 || i == 17
    | .timeSet | .timeStep => decide (8 ≤ i) && decide (i ≤ 13)
    | .configureStream => i == 4 || i == 5 || i == 6 || (decide (8 ≤ i) && decide (i ≤ 19))
    | .configureCq => decide (4 ≤ i) && decide (i ≤ 17)
    | .configureLine => decide (4 ≤ i) && decide (i ≤ 7)
    | .setThreshold => i == 4
    | .query => decide (8 ≤ i) && decide (i ≤ 15)

/-- No reserved byte of the record, byte 1 among them, is nonzero (R160, R174). -/
def reservedClear (k : ControlKind) (r : Record) : Bool :=
  (List.range 32).all (fun i => namedByte k i || fieldAt r i 1 == 0)

/-- A ring size of a stream or a completion queue: a power of two from 16 to 4096 (R118, R138). -/
def ringSizeOk (n : Nat) : Bool := [16, 32, 64, 128, 256, 512, 1024, 2048, 4096].contains n

/-- A control ring size: a power of two from 16 to 256 (9.2). -/
def controlSizeOk (n : Nat) : Bool := [16, 32, 64, 128, 256].contains n

/-- A ring base that is a multiple of 32 with the last byte of the ring at or below 2^64 − 1 (R118, R138, 9.2). -/
def ringBaseOk (base size : Nat) : Bool := base % 32 == 0 && decide (base + 32 * size ≤ 2 ^ 64)

/-! ## The bootstrap block (12.4) -/

/-- The values of a bootstrap block. -/
structure BootBlock where
  base : Nat
  size : Nat
  timeout : Nat
  cqBase : Nat
  cqSize : Nat
  countThreshold : Nat
  timeThreshold : Nat
deriving DecidableEq, Repr

/-- The fields of the block, read from its 64 bytes. -/
def bootBlockOf (data : List Byte) : BootBlock :=
  { base := bytesAt data 8 8, size := bytesAt data 16 2, timeout := bytesAt data 20 2, cqBase := bytesAt data 24 8,
    cqSize := bytesAt data 32 2, countThreshold := bytesAt data 34 1, timeThreshold := bytesAt data 36 2 }

/-- Every check of the table in 9.2 (R153, R174). -/
def bootBlockOk (data : List Byte) : Bool :=
  let b := bootBlockOf data
  bytesAt data 0 4 == Config.bootIdentifier && bytesAt data 4 2 == 1 &&
    ringBaseOk b.base b.size && controlSizeOk b.size && ringBaseOk b.cqBase b.cqSize && ringSizeOk b.cqSize &&
    decide (1 ≤ b.countThreshold) && decide (1 ≤ b.timeout) &&
    bytesAt data 6 2 == 0 && bytesAt data 18 2 == 0 && bytesAt data 22 2 == 0 && bytesAt data 35 1 == 0 &&
    bytesAt data 38 26 == 0

/-! ## The pattern step (12.5) -/

/-- A step as it stands in the table: hold, levels, END flag, and whether it passes the checks of R105. -/
structure RawStep where
  hold : Nat
  levels : BitVec 8
  last : Bool
  ok : Bool
deriving DecidableEq, Repr

/-- One step, from its 8 bytes. -/
def rawStepOf (data : List Byte) : RawStep :=
  { hold := bytesAt data 0 3, levels := BitVec.ofNat 8 (bytesAt data 3 1), last := bytesAt data 4 1 % 2 == 1,
    ok := bytesAt data 0 3 != 0 && decide (bytesAt data 4 1 < 2) && bytesAt data 5 3 == 0 }

/-- The steps that a read of a step table brings. -/
def stepsOf (data : List Byte) : Nat → List RawStep
  | 0 => []
  | n + 1 => rawStepOf (data.take 8) :: stepsOf (data.drop 8) n

/-! ## Encodings of 12.3 and 12.8 to 12.10 -/

/-- The source byte (12.3). -/
def sourceCode : Source → Nat
  | .control => 0x00
  | .stream n => n.val + 1
  | .device => 0x0F

/-- The status byte (12.8). -/
def statusCode : Status → Nat
  | .done => 0x01 | .lateDone => 0x02 | .lateSkipped => 0x03 | .cancelled => 0x04 | .cancelDone => 0x05
  | .markerReached => 0x06 | .nopDone => 0x07 | .captureEdge => 0x08 | .captureDone => 0x09 | .armFired => 0x0A
  | .armTimeout => 0x0B | .underrun => 0x0C | .fetchError => 0x0D | .timeStepped => 0x0E | .streamHalted => 0x0F
  | .streamStopped => 0x10 | .overflow => 0x11 | .refLost => 0x12 | .refRestored => 0x13 | .controlDone => 0x14
  | .controlRefused => 0x15

/-- The refusal codes (12.9). -/
def refusalCode : RefusalCode → W32
  | .badKind => 1 | .badField => 2 | .notOwner => 3 | .lineMode => 4 | .horizon => 5 | .claimConflict => 6
  | .captureBusy => 7 | .badTail => 8 | .streamBusy => 9 | .cqBusy => 10 | .lineBusy => 11 | .busError => 12

/-- Device state (12.10). -/
def deviceModeCode : DeviceMode → Nat
  | .off => 0 | .loading => 1 | .on => 2 | .failed => 3 | .stopping => 4

/-- Timebase state (12.10). -/
def tbModeCode : TbMode → Nat
  | .held => 0 | .running => 1 | .lost => 2

/-- Stream state (12.10). -/
def streamStateCode : StreamState → Nat
  | .idle => 0 | .running => 1 | .waiting => 2 | .halted => 3 | .stopping => 4

/-- Wait reason (12.10). -/
def waitReasonCode : WaitReason → Nat
  | .noWait => 0 | .arm => 1 | .barrier => 2 | .release => 3 | .space => 4 | .player => 5

/-- Line mode (12.10). -/
def lineModeCode : LineMode → Nat
  | .unassigned => 0 | .output => 1 | .input => 2

/-- Player state (12.10). -/
def playerStateCode : PlayerState → Nat
  | .free => 0 | .priming => 1 | .playing => 2 | .retiring => 3

/-- Queue state (12.10). -/
def queueStateCode : QueueState → Nat
  | .unconfigured => 0 | .active => 1 | .faulted => 2

/-- A stream number in a field that holds 0 for none (12.6). -/
def ownerCode : Option StreamId → Nat
  | none => 0
  | some n => n.val + 1

/-- The kind byte of the record that created an entry (R26, R108). -/
def entryKindCode : EntryKind → Byte
  | .set => 0x02 | .pulse => 0x03 | .train => 0x04 | .marker => 0x05 | .patternStep => 0x06 | .captureEnd => 0x07
  | .armDeadline => 0x08

/-- The 32 bytes of a completion record, written with the queue's phase (12.3, R175). -/
def completionBytes (phase : Bool) (c : Completion) : List Byte :=
  leBytes 1 phase.toNat ++ leBytes 1 (sourceCode c.source) ++ leBytes 1 c.kind.toNat ++ leBytes 1 (statusCode c.status)
    ++ leBytes 2 c.tag.toNat ++ leBytes 1 c.line ++ leBytes 1 (c.rising.toNat + 2 * c.frozen.toNat)
    ++ leBytes 6 c.time.toNat ++ leBytes 2 c.head ++ leBytes 4 c.x1.toNat ++ leBytes 4 c.x2.toNat ++ leBytes 8 0

end Sys2Proof.Machine
end

