-- ==== Sys2Proof/Machine/Ops.lean ====
section
/-! DEFINITION. The named operations that every command shares: updates of one block, distances of device times, the
line unit's drives, the calendar's list, the posting of completions, the fetch tests and the consumption of records. -/

namespace Sys2Proof.Machine

/-! ## Updates of one block -/

/-- A change of the timebase and the reference monitor. -/
def Device.modTb (d : Device) (f : Timebase → Timebase) : Device := { d with tb := f d.tb }

/-- The context of a stream. -/
def Device.stream (d : Device) (n : StreamId) : Stream := d.streams.get n

/-- A change of the context of one stream. -/
def Device.modStream (d : Device) (n : StreamId) (f : Stream → Stream) : Device :=
  { d with streams := d.streams.set n.val (f (d.stream n)) n.isLt }

/-- The line table's entry of a line. -/
def Device.line (d : Device) (l : LineId) : Line := d.lines.get l

/-- A change of one entry of the line table. -/
def Device.modLine (d : Device) (l : LineId) (f : Line → Line) : Device :=
  { d with lines := d.lines.set l.val (f (d.line l)) l.isLt }

/-- A change of every entry of the line table. -/
def Device.mapLines (d : Device) (f : LineId → Line → Line) : Device :=
  { d with lines := Vector.ofFn (fun l => f l (d.line l)) }

/-- A player. -/
def Device.player (d : Device) (p : PlayerId) : Player := d.players.get p

/-- A change of one player. -/
def Device.modPlayer (d : Device) (p : PlayerId) (f : Player → Player) : Device :=
  { d with players := d.players.set p.val (f (d.player p)) p.isLt }

/-- A queue context. -/
def Device.queue (d : Device) (q : CqId) : Queue := d.queues.get q

/-- A change of one queue context. -/
def Device.modQueue (d : Device) (q : CqId) (f : Queue → Queue) : Device :=
  { d with queues := d.queues.set q.val (f (d.queue q)) q.isLt }

/-- A change of the control ring processor. -/
def Device.modCtl (d : Device) (f : Control → Control) : Device := { d with ctl := f d.ctl }

/-- A change of the host port's registers. -/
def Device.modHost (d : Device) (f : HostPort → HostPort) : Device := { d with host := f d.host }

/-! ## Time (1.2) -/

/-- The distance of `t` from `now`, (t − now) mod 2^48 (R3). -/
def dist (now t : Time) : Nat := (t - now).toNat

/-- The classes of R3. -/
inductive TimeClass where
  | present
  | ahead (d : Nat)
  | behind (p : Nat)
  | outOfHorizon
deriving DecidableEq, Repr

/-- The classification of `t` against `now` (R3). -/
def classify (now t : Time) : TimeClass :=
  let d := dist now t
  if d = 0 then .present
  else if d ≤ Config.horizon then .ahead d
  else if Config.timeModulus - Config.horizon ≤ d then .behind (Config.timeModulus - d)
  else .outOfHorizon

/-- The timebase is RUNNING. -/
def Device.isRunning (d : Device) : Bool := d.tb.mode == .running

/-! ## EVENT (R167) -/

/-- Set the bits of `m` in EVENT. -/
def setEvent (m : W32) (d : Device) : Device := d.modHost (fun h => { h with event := h.event ||| m })

/-- Clear the bits of `m` in EVENT. -/
def clearEvent (m : W32) (d : Device) : Device := d.modHost (fun h => { h with event := h.event &&& ~~~m })

/-- EVENT CQn_ATTN (12.11). -/
def attnBit (q : CqId) : W32 := BitVec.ofNat 32 (2 ^ q.val)

/-- EVENT CQn_FAULT (12.11). -/
def faultBit (q : CqId) : W32 := BitVec.ofNat 32 (2 ^ (4 + q.val))

/-- EVENT BOOT_DONE (12.11). -/
def bootDoneBit : W32 := 0x100

/-- EVENT BOOT_FAIL (12.11). -/
def bootFailBit : W32 := 0x200

/-- EVENT CMD_IGNORED (12.11). -/
def cmdIgnoredBit : W32 := 0x400

/-- Every bit of EVENT (12.11). -/
def eventBits : W32 := 0x7FF

/-- The attention bit of a queue is set. -/
def attnSet (d : Device) (q : CqId) : Bool := d.host.event &&& attnBit q != 0

/-- A command of the host is ignored and says so (R167). -/
def cmdIgnored (d : Device) : Device := setEvent cmdIgnoredBit d

/-! ## Completions (8.4, 8.5) -/

/-- The lost count of a queue rises, saturating at FFFF_FFFFh (R144). -/
def addLost (q : CqId) (k : Nat) (d : Device) : Device :=
  d.modQueue q (fun c => { c with lost := min Config.max32 (c.lost + k) })

/-- The holding buffer holds 64 records (R142). -/
def holdingFull (d : Device) : Bool := decide (Config.holdingPlaces ≤ d.holding.length)

/-- The losses counted for a record that is not kept: none for a CAPTURE_EDGE, one for any other (R142, R144). -/
def lossOf (c : Completion) : Nat := if c.status = .captureEdge then 0 else 1

/-- A block posts a completion (R142, R144): it is not taken into a full holding buffer, it is discarded at its entry
for a queue that is not ACTIVE, and it otherwise enters behind every record there, with the queue's lost count as its
overflow prefix when that is nonzero. -/
def post (q : CqId) (c : Completion) (d : Device) : Device :=
  if holdingFull d then addLost q (lossOf c) d
  else if (d.queue q).state ≠ .active then addLost q (lossOf c) d
  else
    let pre := if (d.queue q).lost = 0 then none else some (BitVec.ofNat 32 (d.queue q).lost, d.tb.now)
    let d := d.modQueue q (fun c => { c with lost := 0 })
    { d with holding := d.holding ++ [{ queue := q, completion := c, overflow := pre }] }

/-- A completion whose source is a stream, with the stream's head at the moment of posting (R26, R51, R136). -/
def streamCompletion (n : StreamId) (kind : Byte) (status : Status) (tag : Tag) (time : Time) (line : Nat) (x1 x2 : W32)
    (d : Device) : Completion :=
  { source := .stream n, kind := kind, status := status, tag := tag, time := time, line := line,
    head := (d.stream n).head, rising := false, frozen := false, x1 := x1, x2 := x2 }

/-- Post a completion of a stream to its target queue. -/
def postStream (n : StreamId) (kind : Byte) (status : Status) (tag : Tag) (time : Time) (line : Nat) (x1 x2 : W32)
    (d : Device) : Device :=
  post (d.stream n).target (streamCompletion n kind status tag time line x1 x2 d) d

/-- Post a completion of the timebase to CQ0 (R8, R9). -/
def postTimebase (status : Status) (d : Device) : Device :=
  post 0 { source := .device, kind := 0, status := status, tag := 0, time := d.tb.now, line := 0, head := 0,
           rising := false, frozen := false, x1 := 0, x2 := 0 } d

/-! ## Lines (4.6) -/

/-- The line unit applies a drive: each line of the mask in OUTPUT mode takes its bit of the level set (R74). -/
def applyDrive (m levels : Mask) (d : Device) : Device :=
  d.mapLines (fun l x => if inMask m l && x.mode == .output then { x with out := inMask levels l } else x)

/-- A drive of the open expiry instant: the last level driven on a line stands (R25). -/
def stageDrive (m levels : Mask) (d : Device) : Device :=
  { d with stagedMask := d.stagedMask ||| m, stagedLevels := (d.stagedLevels &&& ~~~m) ||| (levels &&& m) }

/-- The drives of the instant reach the pins together (R25). -/
def flushDrives (d : Device) : Device :=
  { applyDrive d.stagedMask d.stagedLevels d with stagedMask := 0, stagedLevels := 0 }

/-- The number of arm waits watching a line (R78, R92). -/
def watchCount (d : Device) (l : LineId) : Nat :=
  (allStreams.filter (fun n => (d.stream n).armWait.any (fun w => w.line == l))).length

/-- What the part puts on a pin: a level in OUTPUT mode, nothing (high impedance) in the others (R65), and nothing
while RESET_N is low (R79). -/
def pin (d : Device) (l : LineId) : Option Bool :=
  if d.host.resetN && (d.line l).mode == .output then some (d.line l).out else none

/-! ## The calendar (2.1 to 2.3) -/

/-- The entries held by a stream (R19). -/
def heldCount (d : Device) (n : StreamId) : Nat := (d.calendar.filter (fun e => e.stream == n)).length

/-- The places of the calendar not held by any entry (R19). -/
def freeCount (d : Device) : Nat := Config.calendarPlaces - d.calendar.length

/-- Whether an entry of the list stays ahead of a new one: its due time is earlier, or the same with a priority greater
than or equal (R16). -/
def staysAhead (now : Time) (old new : Entry) : Bool :=
  decide (dist now old.due < dist now new.due) ||
    (decide (dist now old.due = dist now new.due) && decide (new.prio ≤ old.prio))

/-- The dispatcher places an entry (R16). -/
def insertEntry (now : Time) (new : Entry) : List Entry → List Entry
  | [] => [new]
  | old :: rest => if staysAhead now old new then old :: insertEntry now new rest else new :: old :: rest

/-- The entry at the head is due now while the timebase is RUNNING (R24). -/
def dueNow (d : Device) : Bool :=
  d.isRunning && match d.calendar with
    | [] => false
    | e :: _ => e.due == d.tb.now

/-- An entry is put back after its expiry or by a step; it takes no place (R17). -/
def reinsert (e : Entry) (d : Device) : Device := { d with calendar := insertEntry d.tb.now e d.calendar }

/-- An admission inserts an entry; due now while the timebase is RUNNING it expires at its insertion (R16, R24). -/
def insertNew (e : Entry) (d : Device) : Device :=
  { reinsert e d with instantOpen := d.instantOpen || (d.isRunning && e.due == d.tb.now) }

/-- The freeing report of an entry (R21). -/
def reportOf (e : Entry) : Report := { kind := e.kind, stream := e.stream, tag := e.tag, lines := e.lines }

/-- An entry that has left the list is freed: the freeing is reported (R21). The free and held counts follow the list
(R19). -/
def freed (e : Entry) (d : Device) : Device := { d with reports := d.reports ++ [reportOf e] }

/-- A removal: the entries that satisfy `p` leave the list and are freed, with no expiry (R20). -/
def removeEntries (p : Entry → Bool) (d : Device) : Device :=
  { d with calendar := d.calendar.filter (fun e => !p e), reports := d.reports ++ (d.calendar.filter p).map reportOf }

/-- The dispatcher grants the stream an entry: its held count is below its quota and the free count is above 0 (R22). -/
def entryGranted (d : Device) (n : StreamId) : Bool :=
  decide (heldCount d n < (d.stream n).quota) && decide (0 < freeCount d)

/-- The output kinds of entry (R15). -/
def isOutputKind : EntryKind → Bool
  | .set | .pulse | .train | .patternStep => true
  | .marker | .captureEnd | .armDeadline => false

/-- The output entries of a stream whose tag matches (R59). -/
def matchingEntries (d : Device) (n : StreamId) (v m : Tag) : Nat :=
  (d.calendar.filter (fun e => e.stream == n && isOutputKind e.kind && tagMatch e.tag v m)).length

/-- The output entries of a stream whose mask shares a line with `m` (R72). -/
def meetingEntries (d : Device) (n : StreamId) (m : Mask) : Nat :=
  (d.calendar.filter (fun e => e.stream == n && isOutputKind e.kind && e.lines &&& m != 0)).length

/-! ## Streams (7.4, 7.5) -/

/-- (a − b) mod size on ring indexes (R120). -/
def ringSpan (a b size : Nat) : Nat := (a + size - b) % size

/-- The fetched count of a stream (R116). -/
def fetchedCount (s : Stream) : Nat :=
  s.buffer.length + match s.request with
    | .inFlight n => if s.discard then 0 else n
    | .idle | .pending => 0

/-- The fetch index of a stream (R116). -/
def fetchIndex (s : Stream) : Nat := (s.head + fetchedCount s) % s.size

/-- The conditions of R121 for a fetch request. -/
def fetchWanted (threshold : Nat) (s : Stream) : Bool :=
  (s.state == .running || s.state == .waiting) && decide (threshold ≤ s.prio) && s.request == .idle &&
    decide (s.buffer.length < Config.prefetchPlaces) && decide (fetchedCount s < ringSpan s.tail s.head s.size)

/-- The fetch test of a stream (R121). -/
def fetchTest (n : StreamId) (d : Device) : Device :=
  if fetchWanted d.threshold (d.stream n) then d.modStream n (fun s => { s with request := .pending }) else d

/-- A pending request is withdrawn; a read in flight stays (R121). -/
def withdraw (r : Request) : Request :=
  match r with
  | .pending => .idle
  | .idle => .idle
  | .inFlight n => .inFlight n

/-- The record at the head of a prefetch buffer. -/
def headRecord (s : Stream) : Record := s.buffer.headD 0

/-- A record is consumed: it leaves the prefetch buffer, the head advances by one modulo the ring size, and the stream
makes its fetch test (R51, R121, R125). -/
def consume (n : StreamId) (d : Device) : Device :=
  fetchTest n (d.modStream n (fun s => { s with buffer := s.buffer.drop 1, head := (s.head + 1) % s.size }))

/-- The stream waits at the record at its head (R126). -/
def waitFor (n : StreamId) (w : WaitReason) (d : Device) : Device :=
  d.modStream n (fun s => { s with state := .waiting, reason := w })

/-- The stream is RUNNING, with no wait. -/
def setRunning (n : StreamId) (d : Device) : Device :=
  d.modStream n (fun s => { s with state := .running, reason := .noWait })

/-- The deadline entry of a stream's arm wait (R92). -/
def isDeadlineOf (n : StreamId) (e : Entry) : Bool := e.kind == .armDeadline && e.stream == n

/-- An arm wait ends: its deadline entry, when still in the list, is removed, and the wait is destroyed, so that the
line's watch count falls by one (R95, R98). -/
def endArmWait (n : StreamId) (d : Device) : Device :=
  removeEntries (isDeadlineOf n) (d.modStream n (fun s => { s with armWait := none }))

/-- A halt, but for the completion of its cause (R127, R98). -/
def haltStream (n : StreamId) (d : Device) : Device :=
  (endArmWait n d).modStream n (fun s =>
    { s with state := .halted, reason := .noWait, buffer := [],
             discard := match s.request with
               | .inFlight _ => true
               | .idle | .pending => false,
             request := withdraw s.request })

/-- A refusal at stages 1 to 5 (R50): the stream halts with its head record unconsumed and posts STREAM_HALTED. -/
def refuse (n : StreamId) (code : RefusalCode) (line : Nat) (x2 : W32) (d : Device) : Device :=
  let r := headRecord (d.stream n)
  let d := haltStream n d
  postStream n (StreamRecord.kind r) .streamHalted (StreamRecord.tag r) d.tb.now line (refusalCode code) x2 d

/-- A completion of a consumed record at its admission, after the consumption (R51). -/
def postRecord (n : StreamId) (r : Record) (status : Status) (time : Time) (line : Nat) (x1 x2 : W32) (d : Device) :
    Device :=
  postStream n (StreamRecord.kind r) status (StreamRecord.tag r) time line x1 x2 d

/-- The normal final completion of a record, posted when NOTIFY is set (R42). -/
def postNotified (n : StreamId) (r : Record) (status : Status) (time : Time) (line : Nat) (x1 x2 : W32) (d : Device) :
    Device :=
  if StreamRecord.notify r then postRecord n r status time line x1 x2 d else d

/-- The resolved due time of a record (R44). -/
def resolveTime (d : Device) (n : StreamId) (r : Record) : Time :=
  if StreamRecord.timeRef r = 0 then StreamRecord.time r else (d.stream n).anchor + StreamRecord.time r

/-- A REL_ADV record moves the anchor to its resolved due time at its consumption (R45). -/
def advanceAnchor (n : StreamId) (r : Record) (t : Time) (d : Device) : Device :=
  if StreamRecord.timeRef r = 2 then d.modStream n (fun s => { s with anchor := t }) else d

/-! ## Control ring (9.5) -/

/-- The fetched count of the control ring (R159). -/
def controlFetched (c : Control) : Nat :=
  c.buffer.length + match c.request with
    | .inFlight n => n
    | .idle | .pending => 0

/-- The fetch test of the control ring processor (R159). -/
def controlFetchTest (d : Device) : Device :=
  if d.ctl.mode == .on && d.ctl.request == .idle && decide (d.ctl.buffer.length < Config.prefetchPlaces) &&
      decide (controlFetched d.ctl < ringSpan d.ctl.tail d.ctl.head d.ctl.size) then
    d.modCtl (fun c => { c with request := .pending })
  else d

/-- An entry of the control buffer is consumed (R160). -/
def controlConsume (d : Device) : Device :=
  controlFetchTest (d.modCtl (fun c => { c with buffer := c.buffer.drop 1, head := (c.head + 1) % c.size }))

/-- A completion whose source is the control ring, posted to CQ0 after the consumption (R160). -/
def postControl (kind : Byte) (status : Status) (tag : Tag) (line : Nat) (x1 x2 : W32) (d : Device) : Device :=
  post 0 { source := .control, kind := kind, status := status, tag := tag, time := d.tb.now, line := line,
           head := d.ctl.head, rising := false, frozen := false, x1 := x1, x2 := x2 } d

/-- CONTROL_DONE of a record (R160). -/
def controlDone (r : Record) (line : Nat) (x1 x2 : W32) (d : Device) : Device :=
  postControl (StreamRecord.kind r) .controlDone (StreamRecord.tag r) line x1 x2 d

/-- CONTROL_REFUSED of a record (R160). -/
def controlRefused (r : Record) (code : RefusalCode) (line : Nat) (x2 : W32) (d : Device) : Device :=
  postControl (StreamRecord.kind r) .controlRefused (StreamRecord.tag r) line (refusalCode code) x2 d

/-! ## Coalescing (8.7) -/

/-- Attention is raised: EVENT CQn_ATTN is set, u returns to 0 and the timer stops (R147). -/
def raiseAttention (q : CqId) (d : Device) : Device :=
  setEvent (attnBit q) (d.modQueue q (fun c => { c with unsignalled := 0, timer := none }))

/-- Attention is raised when u is above 0 (R146, R149). -/
def signalRemaining (q : CqId) (d : Device) : Device :=
  if 0 < (d.queue q).unsignalled then raiseAttention q d else d

/-- A record whose write succeeded is counted (R147). -/
def coalesce (q : CqId) (d : Device) : Device :=
  let c := d.queue q
  let u := min 255 (c.unsignalled + 1)
  let d := d.modQueue q (fun c => { c with unsignalled := u })
  if attnSet d q then d
  else if c.countThreshold ≤ u then raiseAttention q d
  else if c.unsignalled = 0 ∧ c.timeThreshold ≠ 0 then d.modQueue q (fun c => { c with timer := some 0 })
  else d

/-! ## The part as a whole -/

/-- No orphaned read and no write outstanding at a soft reset remains (R156). -/
def quiet (d : Device) : Bool := !(d.reads.any (·.orphaned)) && !(d.writes.any (·.orphaned))

end Sys2Proof.Machine
end

