-- ==== Sys2Proof/Machine/Players.lean ====
section
/-! DEFINITION. The pattern players' side of every event (chapter 6): the refill test, the arrival of steps, the endings
of a pattern and the expiry of its entry. -/

namespace Sys2Proof.Machine

/-- A completion of a pattern: kind PATTERN, the pattern's tag, the lowest line of its mask (R108). -/
def postPattern (n : StreamId) (pl : Player) (status : Status) (time : Time) (x1 x2 : W32) (d : Device) : Device :=
  postStream n (entryKindCode .patternStep) status pl.tag time (lowestLine pl.lines) x1 x2 d

/-- A player becomes FREE (R109, R111, R112). -/
def freePlayer (p : PlayerId) (d : Device) : Device := d.modPlayer p (fun _ => Player.reset)

/-- The player after an ending of its pattern other than at its END expiry (R112): RETIRING when its read is in flight,
keeping stream and tag, and FREE otherwise; a pending request is withdrawn and the buffer discarded. The other fields of
a RETIRING player, which the spec does not give, are held at the values of a FREE one (DESIGN CHOICE, log 23). -/
def endedPlayer (pl : Player) : Player :=
  match pl.request with
  | .inFlight n => { Player.reset with state := .retiring, stream := pl.stream, tag := pl.tag, request := .inFlight n }
  | .idle | .pending => Player.reset

/-- The pattern of a player ends other than at its END expiry (R112). -/
def endPattern (p : PlayerId) (d : Device) : Device := d.modPlayer p endedPlayer

/-- A player in PRIMING or PLAYING (R106). -/
def hasPattern (pl : Player) : Bool := pl.state == .priming || pl.state == .playing

/-- The conditions of R106 for a refill request. -/
def refillWanted (pl : Player) : Bool :=
  hasPattern pl && pl.request == .idle && !pl.fetched && decide (pl.buffer.length ≤ 8)

/-- The refill test (R106): a request for min(8, N − fetch cursor) steps (R105). -/
def refillTest (p : PlayerId) (d : Device) : Device :=
  d.modPlayer p (fun pl =>
    if refillWanted pl then { pl with request := .pending, asked := min 8 (pl.steps - pl.cursor) } else pl)

/-- The steps of a read are appended in table order, up to the end of the pass (R105). -/
def appendSteps (pl : Player) : List RawStep → Player
  | [] => pl
  | s :: rest =>
    if s.last || pl.cursor + 1 == pl.steps then
      let pl := { pl with buffer := pl.buffer ++ [Step.mk s.hold s.levels true] }
      if pl.begun < pl.repeats then { pl with begun := pl.begun + 1, cursor := 0 }
      else { pl with fetched := true, cursor := pl.cursor + 1 }
    else
      appendSteps { pl with buffer := pl.buffer ++ [Step.mk s.hold s.levels false], cursor := pl.cursor + 1 } rest

/-- The calendar entry of a player (R100). -/
def isEntryOfPlayer (p : PlayerId) (e : Entry) : Bool := e.kind == .patternStep && e.player == some p

/-- A read of a player's table fails (R111), with its cause: 1 bus error, 2 timeout, 3 invalid step. FETCH_ERROR is posted
before the freeing report of the removed entry is tested, so that it comes before the DONE of a WAIT or RELEASE that the
report ends (DESIGN CHOICE, log 30). -/
def failPattern (p : PlayerId) (cause : Nat) (d : Device) : Device :=
  let pl := d.player p
  let d := if pl.state = .playing then applyDrive pl.lines pl.rest d else d
  let d := removeEntries (isEntryOfPlayer p) d
  let d := match pl.stream with
    | some n => postPattern n pl .fetchError d.tb.now (sat32 pl.applied) (BitVec.ofNat 32 cause) d
    | none => d
  freePlayer p d

/-- What the end of a read brings to its issuer (R169). -/
inductive ReadEnd where
  | data (bytes : List Byte)
  | busError
  | timedOut
deriving DecidableEq, Repr

/-- The cause of a failed read: 1 for a bus error, 2 for a timeout (R129, R159, R111). -/
def failureCause : ReadEnd → Nat
  | .timedOut => 2
  | .data _ | .busError => 1

/-- The read of a player ends (R105, R111, R112). -/
def playerReadEnd (p : PlayerId) (r : ReadEnd) (d : Device) : Device :=
  let pl := d.player p
  match pl.state, pl.request with
  | .retiring, _ => freePlayer p d
  | .priming, .inFlight n | .playing, .inFlight n =>
    match r with
    | .data bytes =>
      if (stepsOf bytes n).all (·.ok) then
        refillTest p (d.modPlayer p (fun pl => { appendSteps pl (stepsOf bytes n) with request := .idle }))
      else failPattern p 3 d
    | .busError => failPattern p 1 d
    | .timedOut => failPattern p 2 d
  | _, _ => d

/-- A PATTERN_STEP entry, taken from the list at its expiry, is handed to its player (R31): the END expiry (R109), the
underrun (R110) or the next step (R107). -/
def expirePattern (e : Entry) (p : PlayerId) (d : Device) : Device :=
  let pl := d.player p
  if pl.nextEnd then
    let d := stageDrive pl.lines pl.rest d
    let d :=
      if e.lateMark then
        postPattern e.stream pl .lateDone d.tb.now (sat32 pl.applied) (sat32 pl.completed) d
      else if e.notify then postPattern e.stream pl .done d.tb.now (sat32 pl.applied) (sat32 pl.completed) d
      else d
    freed e (freePlayer p d)
  else match pl.buffer with
    | [] =>
      let d := stageDrive pl.lines pl.rest d
      let d := postPattern e.stream pl .underrun d.tb.now (sat32 pl.applied) (sat32 pl.completed) d
      freed e (endPattern p d)
    | s :: rest =>
      let d := stageDrive pl.lines (spreadLevels pl.lines s.levels) d
      let completed := if s.last then pl.completed + 1 else pl.completed
      let d := d.modPlayer p (fun pl =>
        { pl with buffer := rest, applied := pl.applied + 1, state := .playing, completed := completed,
                  nextEnd := s.last && completed == pl.repeats })
      refillTest p (reinsert { e with due := d.tb.now + BitVec.ofNat 48 s.hold } d)

end Sys2Proof.Machine
end

