-- ==== Sys2Proof/Machine/Capture.lean ====
section
/-! DEFINITION. The capture unit (chapter 5) and the line unit's input side (4.7, 4.8): edges into a context, the
endings of a context, the firing and the timeout of an arm wait, samples and accepted changes. -/

namespace Sys2Proof.Machine

/-- The CAPTURE_END entry of a line's context (R82, R84). -/
def isEndEntryOf (l : LineId) (e : Entry) : Bool := e.kind == .captureEnd && e.context == some (.capture l)

/-- A context ends by count, end time, CANCEL or RELEASE (R89): its reference is cleared, its end entry removed when
it is still in the list, and CAPTURE_DONE posted when its notify flag is set. -/
def endCapture (l : LineId) (d : Device) : Device :=
  match (d.line l).capture with
  | none => d
  | some c =>
    let d := removeEntries (isEndEntryOf l) (d.modLine l (fun x => { x with capture := none }))
    if c.notify then
      postStream c.stream (entryKindCode .captureEnd) .captureDone c.tag d.tb.now l.val (sat32 c.captured)
        (sat32 c.missed) d
    else d

/-- The CAPTURE_EDGE of a selected edge (R85). -/
def captureEdgeCompletion (l : LineId) (c : Capture) (rising : Bool) (time : Time) (frozen : Bool) (d : Device) :
    Completion :=
  { streamCompletion c.stream (entryKindCode .captureEnd) .captureEdge c.tag time l.val (sat32 (c.captured + 1))
      (sat32 c.missed) d with rising := rising, frozen := frozen }

/-- A context is handed an edge event (R85, R86, R87). -/
def captureEdge (l : LineId) (rising : Bool) (time : Time) (frozen : Bool) (d : Device) : Device :=
  match (d.line l).capture with
  | none => d
  | some c =>
    if !takesEdge c.edges rising then d
    else if holdingFull d then
      d.modLine l (fun x => { x with capture := some { c with missed := c.missed + 1 } })
    else
      let d := post (d.stream c.stream).target (captureEdgeCompletion l c rising time frozen d) d
      let d := d.modLine l (fun x => { x with capture := some { c with captured := c.captured + 1, missed := 0 } })
      if c.limit ≠ 0 ∧ c.captured + 1 = c.limit then endCapture l d else d

/-- The arm wait of a stream watches the line and takes edges of this direction (R95). -/
def firesOn (d : Device) (l : LineId) (rising : Bool) (n : StreamId) : Bool :=
  (d.stream n).armWait.any (fun w => w.line == l && takesEdge w.edges rising)

/-- An arm wait fires (R95), if the stream still has one. -/
def fireArm (h : HandedEdge) (d : Device) : Device :=
  match (d.stream h.stream).armWait with
  | none => d
  | some w =>
    let n := h.stream
    let d := endArmWait n d
    let d := d.modStream n (fun s => { s with anchor := h.time })
    let d := setRunning n (consume n d)
    if w.notify then
      post (d.stream n).target
        { streamCompletion n (entryKindCode .armDeadline) .armFired w.tag h.time w.line.val 0 0 d with
          rising := h.rising, frozen := h.frozen } d
    else d

/-- An accepted change of a line's filtered level (R77): the edge event goes to the capture context and to every arm
wait watching the line. `armsFirst` says which takes it first: the spec lets the CAPTURE_EDGE and the ARM_FIRED come in
either order (R95; log 17). Otherwise the arm waits keep the edge until ARM_FIRED takes it. -/
def acceptEdge (l : LineId) (armsFirst : Bool) (d : Device) : Device :=
  let rising := !(d.line l).filtered
  let time := d.tb.now
  let frozen := !d.isRunning
  let d := d.modLine l (fun x => { x with filtered := rising, agree := 0, sampled := true })
  let handed := (allStreams.filter (firesOn d l rising)).map
    (fun n => ({ stream := n, rising := rising, time := time, frozen := frozen } : HandedEdge))
  if armsFirst then captureEdge l rising time frozen (handed.foldl (fun d h => fireArm h d) d)
  else
    let d := captureEdge l rising time frozen d
    { d with edges := d.edges ++ handed }

/-- One sample of an INPUT line (R75, R76), which counts as the one of its period (log 37). -/
def sampleLine (l : LineId) (level armsFirst : Bool) (d : Device) : Device :=
  let x := d.line l
  if x.mode ≠ .input then d
  else if level = x.filtered then d.modLine l (fun x => { x with agree := 0, sampled := true })
  else if x.filterLength ≤ x.agree then acceptEdge l armsFirst d
  else d.modLine l (fun x => { x with agree := x.agree + 1, sampled := true })

/-- The deadline of an arm wait expires (R96): its entry has left the list. -/
def timeoutArm (n : StreamId) (d : Device) : Device :=
  match (d.stream n).armWait with
  | none => d
  | some w =>
    let d := d.modStream n (fun s => { s with armWait := none })
    let d := consume n d
    let d := postStream n (entryKindCode .armDeadline) .armTimeout w.tag d.tb.now w.line.val 0
      (if w.haltOnTimeout then 1 else 0) d
    if w.haltOnTimeout then haltStream n d
    else setRunning n (d.modStream n (fun s => { s with anchor := d.tb.now }))

end Sys2Proof.Machine
end

