-- ==== Sys2Proof/Machine/Calendar.lean ====
section
/-! DEFINITION. The dispatcher (chapter 2): what each kind of entry does at its expiry, the expiry instant, the judgement
of lateness, and the resolution of time steps. -/

namespace Sys2Proof.Machine

/-! ## Expiry (2.4) -/

/-- The completion that ends a SET, PULSE, TRAIN or MARKER entry, with the fields of R26: LATE_DONE with a late mark,
otherwise `normal` when `owed` (R26, R30). -/
def postFinal (e : Entry) (normal : Status) (owed : Bool) (x1 x2 : W32) (d : Device) : Device :=
  if e.lateMark then
    postStream e.stream (entryKindCode e.kind) .lateDone e.tag d.tb.now (lowestLine e.lines) x1 x2 d
  else if owed then
    postStream e.stream (entryKindCode e.kind) normal e.tag d.tb.now (lowestLine e.lines) x1 x2 d
  else d

/-- The expiry of a SET entry (R27). -/
def expireSet (e : Entry) (d : Device) : Device :=
  freed e (postFinal e .done e.notify 0 0 (stageDrive e.lines e.levels d))

/-- The expiry of a PULSE entry in its phase (R28). -/
def expirePulse (e : Entry) (ph : PhasePart) (d : Device) : Device :=
  match ph.phase with
  | .start =>
    reinsert { e with due := d.tb.now + BitVec.ofNat 48 ph.width, phase := some { ph with phase := .ending } }
      (stageDrive e.lines e.levels d)
  | .ending => freed e (postFinal e .done e.notify 0 0 (stageDrive e.lines (~~~e.levels) d))

/-- The grid point of the next pulse, that of index driven + missed (R29). -/
def gridPoint (t : TrainPart) : Time := t.origin + BitVec.ofNat 48 ((t.driven + t.missed) * t.period)

/-- How many grid points, from the next one on, lie behind `now` (R29, R37). The next grid point is now or less than
2^32 ticks ahead, as every re-insertion is (R18), or it is behind, however far: several steps taken in HELD while an END
is pending may carry device time past the horizon of the grid point, and every point passed over is missed all the same
(DEDUCED, log 27). -/
def gridPointsBehind (now : Time) (t : TrainPart) : Nat :=
  let d := dist now (gridPoint t)
  if d < Config.reinsertionReach then 0 else (Config.timeModulus - d + t.period - 1) / t.period

/-- The grid points behind `now` are counted as missed, up to the count of a finite train (R29, R37). -/
def passGrid (now : Time) (t : TrainPart) : TrainPart :=
  let m := gridPointsBehind now t
  if t.remaining = 0 then { t with missed := t.missed + m }
  else { t with missed := t.missed + min m t.remaining, remaining := t.remaining - m }

/-- Passing over the grid points behind `now` brings the count of a finite train to 0 (R29, R37). -/
def gridExhausted (now : Time) (t : TrainPart) : Bool :=
  t.remaining != 0 && decide (t.remaining ≤ gridPointsBehind now t)

/-- A train is done: its final completion with pulses driven and missed, and its entry freed (R29, R37). -/
def finishTrain (e : Entry) (t : TrainPart) (d : Device) : Device :=
  freed e (postFinal e .done e.notify (sat32 t.driven) (sat32 t.missed) d)

/-- A train goes on at its next grid point that is now or ahead, in phase START, or is done (R29, R37). -/
def resumeTrain (e : Entry) (ph : PhasePart) (t : TrainPart) (d : Device) : Device :=
  let t' := passGrid d.tb.now t
  if gridExhausted d.tb.now t then finishTrain e t' d
  else reinsert { e with due := gridPoint t', phase := some { ph with phase := .start }, train := some t' } d

/-- The expiry of a TRAIN entry in its phase (R29). -/
def expireTrain (e : Entry) (ph : PhasePart) (t : TrainPart) (d : Device) : Device :=
  match ph.phase with
  | .start =>
    reinsert { e with due := d.tb.now + BitVec.ofNat 48 ph.width, phase := some { ph with phase := .ending },
                      train := some { t with driven := t.driven + 1 } }
      (stageDrive e.lines e.levels d)
  | .ending =>
    let d := stageDrive e.lines (~~~e.levels) d
    if t.remaining = 1 then finishTrain e { t with remaining := 0 } d
    else resumeTrain e ph { t with remaining := t.remaining - 1 } d

/-- The expiry of a MARKER entry (R30). -/
def expireMarker (e : Entry) (d : Device) : Device := freed e (postFinal e .markerReached true 0 0 d)

/-- The expiry of a CAPTURE_END entry (R31, R88). -/
def expireCaptureEnd (e : Entry) (d : Device) : Device :=
  match e.context with
  | some (.capture l) => freed e (endCapture l d)
  | some .armWait | none => freed e d

/-- The expiry of an entry that has been taken from the head of the list (R24, R31). An entry without the part its kind
carries (R15) would only be freed; no admission makes one. -/
def expireEntry (e : Entry) (d : Device) : Device :=
  match e.kind with
  | .set => expireSet e d
  | .pulse => match e.phase with
    | some ph => expirePulse e ph d
    | none => freed e d
  | .train => match e.phase, e.train with
    | some ph, some t => expireTrain e ph t d
    | _, _ => freed e d
  | .marker => expireMarker e d
  | .patternStep => match e.player with
    | some p => expirePattern e p d
    | none => freed e d
  | .captureEnd => expireCaptureEnd e d
  | .armDeadline => freed e (timeoutArm e.stream d)

/-- After an expiry the instant goes on while an entry is due now; at its last expiry its drives reach the pins together
(R24, R25). -/
def continueInstant (d : Device) : Device :=
  if dueNow d then { d with instantOpen := true } else { flushDrives d with instantOpen := false }

/-- The entry at the head expires, if it is due now while the timebase is RUNNING (R24). -/
def expireHead (d : Device) : Device :=
  match d.calendar with
  | [] => continueInstant d
  | e :: rest => if dueNow d then continueInstant (expireEntry e { d with calendar := rest }) else continueInstant d

/-- The kind of the entry that expires next at this instant. -/
def expiring (d : Device) : Option EntryKind :=
  match d.calendar with
  | [] => none
  | e :: _ => if dueNow d then some e.kind else none

/-! ## Lateness (2.5) -/

/-- The judgement of R32. -/
inductive Judgement where
  /-- Kept, with its effective due time and its late mark. -/
  | keep (due : Time) (lateMark : Bool)
  /-- Skipped, with its lateness. -/
  | skip (lateness : Nat)
deriving DecidableEq, Repr

/-- The judgement of a time behind now by `p` (R32, R36). -/
def judgeLate (now : Time) (p window : Nat) (lateRun : Bool) : Judgement :=
  if p ≤ window then .keep now false
  else if lateRun then .keep now true
  else .skip p

/-- The judgement of a resolved due time at an admission (R32). -/
def judge (now t : Time) (window : Nat) (lateRun : Bool) : Judgement :=
  match classify now t with
  | .behind p => judgeLate now p window lateRun
  | .present | .ahead _ | .outOfHorizon => .keep t false

/-! ## Time steps (2.6) -/

/-- What a forward step has done so far: the part, the entries resolved late and the entries skipped (R35). -/
structure Resolution where
  dev : Device
  late : Nat
  skipped : Nat

/-- An entry is kept by the step, due now, and counted as resolved late (R35). -/
def Resolution.retime (x : Resolution) (e : Entry) : Resolution :=
  { x with dev := reinsert { e with due := x.dev.tb.now } x.dev, late := x.late + 1 }

/-- The LATE_SKIPPED of an entry that a step skips: its due time before the step and its lateness (R36). -/
def postStepSkipped (e : Entry) (p : Nat) (d : Device) : Device :=
  postStream e.stream (entryKindCode e.kind) .lateSkipped e.tag e.due (lowestLine e.lines) (sat32 p) 0 d

/-- The late mark of an entry after a judgement by a step: as judged, clear within the window (R32, R36, R38), but a PULSE
keeps one that it has through every re-insertion (R33; log 28). -/
def markJudged (e : Entry) (late : Bool) : Bool := late || (e.kind == .pulse && e.lateMark)

/-- A point action passed over by a step (R36); `onSkip` is what the skip does beside its completion. -/
def Resolution.point (x : Resolution) (e : Entry) (p : Nat) (onSkip : Device → Device) : Resolution :=
  match judgeLate x.dev.tb.now p e.window e.lateRun with
  | .keep _ late => x.retime { e with lateMark := markJudged e late }
  | .skip p => { x with dev := freed e (onSkip (postStepSkipped e p x.dev)), skipped := x.skipped + 1 }

/-- A train passed over by a step keeps its grid (R37). -/
def Resolution.train (x : Resolution) (e : Entry) (ph : PhasePart) (t : TrainPart) : Resolution :=
  match ph.phase with
  | .ending => x.retime e
  | .start => { x with dev := resumeTrain e ph t x.dev, late := x.late + 1 }

/-- A pattern passed over by a step (R38, R114). -/
def Resolution.pattern (x : Resolution) (e : Entry) (p : Nat) (q : PlayerId) : Resolution :=
  let pl := x.dev.player q
  if pl.state = .priming then x.point e p (endPattern q)
  else
    let d := applyDrive pl.lines pl.rest x.dev
    let d := postPattern e.stream pl .timeStepped d.tb.now (sat32 pl.applied) (sat32 pl.completed) d
    { x with dev := freed e (endPattern q d), skipped := x.skipped + 1 }

/-- One entry that lies behind the new device time by `p`, taken from the list (the table of R35). -/
def Resolution.entry (x : Resolution) (e : Entry) (p : Nat) : Resolution :=
  match e.kind with
  | .set | .marker => x.point e p id
  | .pulse => match e.phase with
    | some ph => if ph.phase = .start then x.point e p id else x.retime e
    | none => x.retime e
  | .train => match e.phase, e.train with
    | some ph, some t => x.train e ph t
    | _, _ => x.retime e
  | .patternStep => match e.player with
    | some q => x.pattern e p q
    | none => x.retime e
  | .captureEnd | .armDeadline => x.retime e

/-- A forward step of `k` ticks: device time moves, and every entry it passes over is resolved in list order (R12, R35). -/
def stepForward (k : Nat) (d : Device) : Resolution :=
  let passed := d.calendar.filter (fun e => decide (dist d.tb.now e.due < k))
  let kept := d.calendar.filter (fun e => !decide (dist d.tb.now e.due < k))
  let moved := { d with calendar := kept, tb := { d.tb with now := d.tb.now + BitVec.ofNat 48 k } }
  passed.foldl (fun x e => x.entry e (k - dist d.tb.now e.due)) { dev := moved, late := 0, skipped := 0 }

/-- A backward step of `k` ticks resolves nothing (R39). -/
def stepBackward (k : Nat) (d : Device) : Resolution :=
  { dev := d.modTb (fun t => { t with now := t.now - BitVec.ofNat 48 k }), late := 0, skipped := 0 }

/-- The check of every entry against the new device time of a backward step (R34); a forward step always passes. -/
def stepAllowed (delta : Int) (d : Device) : Bool :=
  decide (0 ≤ delta) || d.calendar.all (fun e => decide (dist d.tb.now e.due + delta.natAbs ≤ Config.horizon))

/-- The step itself (R12). -/
def stepTime (delta : Int) (d : Device) : Resolution :=
  if 0 ≤ delta then stepForward delta.natAbs d else stepBackward delta.natAbs d

end Sys2Proof.Machine
end

