-- ==== Sys2Proof/Machine/Streams.lean ====
section
/-! DEFINITION. The streams' side of the events that are not admissions: the barriers of WAIT and RELEASE, START, STOP,
the passage to IDLE, tail writes and the ends of ring reads (3.7, 4.5, 7.4 to 7.7). -/

namespace Sys2Proof.Machine

/-! ## Barriers (R60, R73) -/

/-- A WAIT passes (R59, R60): it is consumed, posts DONE if NOTIFY is set with the count it found, and the stream is
RUNNING. -/
def passWait (n : StreamId) (d : Device) : Device :=
  let r := headRecord (d.stream n)
  let found := (d.stream n).found
  let d := setRunning n (consume n d)
  postNotified n r .done d.tb.now 0 (sat32 found) 0 d

/-- A RELEASE completes (R73): its lines take owner none, it is consumed, the stream is RUNNING, and it posts DONE if
NOTIFY is set, with the count found at R72 and the captures it ended. -/
def completeRelease (n : StreamId) (d : Device) : Device :=
  let r := headRecord (d.stream n)
  let s := d.stream n
  let d := d.mapLines (fun l x =>
    if inMask (StreamRecord.lines r) l && x.owner == some n then { x with owner := none } else x)
  let d := setRunning n (consume n d)
  postNotified n r .done d.tb.now (lowestLine (StreamRecord.lines r)) (sat32 s.found) (sat32 s.ended) d

/-- A freeing report is one that the WAIT at which its stream waits is tested against (R60). -/
def concernsWait (d : Device) (x : Report) : Bool :=
  let s := d.stream x.stream
  let r := headRecord s
  s.state == .waiting && s.reason == .barrier && isOutputKind x.kind &&
    tagMatch x.tag (StreamRecord.tag r) (StreamRecord.short r)

/-- A freeing report, taken from the reports, ends the WAIT it concerns: no matching output entry remains, and it is the
last report of one (R60). -/
def waitOver (d : Device) (x : Report) : Bool :=
  let r := headRecord (d.stream x.stream)
  concernsWait d x && matchingEntries d x.stream (StreamRecord.tag r) (StreamRecord.short r) == 0 &&
    !(d.reports.any (fun y => y.stream == x.stream && concernsWait d y))

/-- A freeing report is one that the RELEASE at which its stream waits is tested against (R73). -/
def concernsRelease (d : Device) (x : Report) : Bool :=
  let s := d.stream x.stream
  let r := headRecord s
  s.state == .waiting && s.reason == .release && isOutputKind x.kind && x.lines &&& StreamRecord.lines r != 0

/-- A freeing report, taken from the reports, ends the RELEASE it concerns: no meeting output entry remains, and it is the
last report of one (R73). -/
def releaseOver (d : Device) (x : Report) : Bool :=
  let r := headRecord (d.stream x.stream)
  concernsRelease d x && meetingEntries d x.stream (StreamRecord.lines r) == 0 &&
    !(d.reports.any (fun y => y.stream == x.stream && concernsRelease d y))

/-- A freeing report is tested (R21, R60, R73). -/
def testReport (x : Report) (d : Device) : Device :=
  if waitOver d x then passWait x.stream d
  else if releaseOver d x then completeRelease x.stream d
  else d

/-- Reports are tested, the oldest first, up to the one after which `done` holds (R21). -/
def testReports (done : Device → Bool) : List Report → Device → Device
  | [], d => d
  | x :: rest, d =>
    let d' := testReport x { d with reports := rest }
    if done d' then d' else testReports done rest d'

/-! ## STOP and the passage to IDLE (7.7) -/

/-- The lines a stream owns. -/
def ownedLines (d : Device) (n : StreamId) : Mask := maskOf (fun l => (d.line l).owner == some n)

/-- The lines with an open capture of the stream. -/
def capturedLines (d : Device) (n : StreamId) : List LineId :=
  allLines.filter (fun l => (d.line l).capture.any (fun c => c.stream == n))

/-- An entry that a STOP counts (R132): every kind but CAPTURE_END and ARM_DEADLINE. -/
def countedAtStop (e : Entry) : Bool := e.kind != .captureEnd && e.kind != .armDeadline

/-- The count of work a STOP ends (R132). -/
def stopWork (d : Device) (n : StreamId) : Nat :=
  (d.calendar.filter (fun e => e.stream == n && countedAtStop e)).length + (capturedLines d n).length +
    (if (d.stream n).armWait.isSome then 1 else 0)

/-- The passage from STOPPING to IDLE (R133). -/
def becomeIdle (n : StreamId) (d : Device) : Device :=
  let s := d.stream n
  let d := postStream n 0 .streamStopped 0 d.tb.now 0 (sat32 s.stopCount) s.stopLines d
  d.modStream n (fun s =>
    { s with state := .idle, reason := .noWait, head := 0, tail := 0, buffer := [], stopCount := 0, stopLines := 0 })

/-- A read of a stream is in flight. -/
def inFlight (r : Request) : Bool :=
  match r with
  | .inFlight _ => true
  | .idle | .pending => false

/-- A STOPPING stream with no read in flight (R133). -/
def stopOver (d : Device) (n : StreamId) : Bool :=
  (d.stream n).state == .stopping && !inFlight (d.stream n).request

/-- The teardown of a STOP, one event (R132): entries, captures, arm wait and patterns end with no completion, owned
OUTPUT lines go to their safe levels, owned lines are given up, and the stream enters STOPPING. -/
def tearDown (n : StreamId) (d : Device) : Device :=
  let work := stopWork d n
  let owned := ownedLines d n
  let d := removeEntries (fun e => e.stream == n) d
  let d := d.mapLines (fun _ x => if x.capture.any (fun c => c.stream == n) then { x with capture := none } else x)
  let d := d.modStream n (fun s => { s with armWait := none })
  let d := allPlayers.foldl (fun d p =>
    if hasPattern (d.player p) && (d.player p).stream == some n then endPattern p d else d) d
  let d := d.mapLines (fun _ x =>
    if x.owner == some n then { x with owner := none, out := if x.mode = .output then x.safe else x.out } else x)
  d.modStream n (fun s =>
    { s with state := .stopping, reason := .noWait, buffer := [], request := withdraw s.request, stopCount := work,
             stopLines := owned })

/-- A STOP (R132): taken in RUNNING, WAITING and HALTED, with the passage to IDLE within it when the stream has no read
in flight (R133); ignored otherwise. The rules conflict about a START after the STOP of a HALTED stream without a read:
R134 says that it is ignored, and by R133 it finds the stream IDLE and starts it (R131). The model follows R133 (DESIGN
CHOICE, log 34). -/
def stopStream (n : StreamId) (d : Device) : Device :=
  match (d.stream n).state with
  | .running | .waiting | .halted =>
    let d := tearDown n d
    if stopOver d n then becomeIdle n d else d
  | .idle | .stopping => cmdIgnored d

/-- A START (R131). -/
def startStream (n : StreamId) (d : Device) : Device :=
  if d.ctl.mode ≠ .on then cmdIgnored d
  else match (d.stream n).state, (d.stream n).configured with
    | .idle, true =>
      fetchTest n (d.modStream n (fun s =>
        { s with state := .running, reason := .noWait, head := 0, tail := 0, buffer := [], anchor := d.tb.now }))
    | .halted, _ => fetchTest n (d.modStream n (fun s => { s with state := .running, reason := .noWait, buffer := [] }))
    | .idle, false | .running, _ | .waiting, _ | .stopping, _ => cmdIgnored d

/-! ## The ring (7.4) -/

/-- The check of a tail write (R120). -/
def tailFits (s : Stream) (index : Nat) : Bool :=
  decide (index < s.size) && decide (fetchedCount s ≤ ringSpan index s.head s.size)

/-- A failing tail write (R128). -/
def badTail (n : StreamId) (index : Nat) (d : Device) : Device :=
  let d := haltStream n d
  postStream n 0 .streamHalted 0 d.tb.now 0 (refusalCode .badTail) (BitVec.ofNat 32 index) d

/-- A tail write to a stream (R120). -/
def writeTail (n : StreamId) (index : Nat) (d : Device) : Device :=
  match (d.stream n).state with
  | .idle | .stopping => cmdIgnored d
  | .running | .waiting | .halted =>
    if tailFits (d.stream n) index then
      fetchTest n (d.modStream n (fun s =>
        { s with tail := index,
                 request := if ringSpan index s.head s.size = fetchedCount s then withdraw s.request else s.request }))
    else badTail n index d

/-- A fetch failure that halts the stream (R129). -/
def failFetch (n : StreamId) (cause : Nat) (d : Device) : Device :=
  let s := d.stream n
  let first := (s.head + s.buffer.length) % s.size
  let d := haltStream n (d.modStream n (fun s => { s with request := .idle }))
  postStream n 0 .fetchError 0 d.tb.now 0 (BitVec.ofNat 32 first) (BitVec.ofNat 32 cause) d

/-- The read of a stream's ring ends (R123, R124, R129, R133). The fetch test that R123 asks for is made here, before the
records that the read brings can be admitted (DESIGN CHOICE, log 38). -/
def streamReadEnd (n : StreamId) (r : ReadEnd) (d : Device) : Device :=
  let s := d.stream n
  if s.discard then
    fetchTest n (d.modStream n (fun s => { s with request := .idle, discard := false }))
  else match s.state, s.request with
    | .running, .inFlight k | .waiting, .inFlight k =>
      match r with
      | .data bytes =>
        fetchTest n (d.modStream n (fun s => { s with buffer := s.buffer ++ recordsOf bytes k, request := .idle }))
      | .busError => failFetch n 1 d
      | .timedOut => failFetch n 2 d
    | _, _ => d.modStream n (fun s => { s with request := .idle })

end Sys2Proof.Machine
end

