-- ==== Sys2Proof/Machine/Admission.lean ====
section
/-! DEFINITION. Admission (3.3): the stages, and the kinds of stream record (chapter 3, 4.4, 4.5, 5.1, 5.5, 6.2). Each
`admit…` takes the record at the head of the stream's prefetch buffer; `resumed` is set for a record that waited at
stage 7, which goes through stages 4, 6 and 7 again and, for an ARM, stage 3 (R52). -/

namespace Sys2Proof.Machine

/-! ## Checks of the stages -/

/-- The lines of a mask that the stream does not own (R48). -/
def notOwned (d : Device) (n : StreamId) (m : Mask) : Mask :=
  maskOf (fun l => inMask m l && (d.line l).owner != some n)

/-- The lines of a mask that are not in a mode (R48, R83, R93). -/
def notInMode (d : Device) (mode : LineMode) (m : Mask) : Mask :=
  maskOf (fun l => inMask m l && (d.line l).mode != mode)

/-- Stage 3 for a record whose lines must be owned and in a mode: the refusal code and the failing lines (R48, R83). -/
def lineFault (d : Device) (n : StreamId) (mode : LineMode) (m : Mask) : Option (RefusalCode × Mask) :=
  if notOwned d n m ≠ 0 then some (.notOwner, notOwned d n m)
  else if notInMode d mode m ≠ 0 then some (.lineMode, notInMode d mode m)
  else none

/-- A refusal at stage 3: the lowest failing line and the mask of failing lines (R50). -/
def refuseLines (n : StreamId) (x : RefusalCode × Mask) (d : Device) : Device := refuse n x.1 (lowestLine x.2) x.2 d

/-- A time out of horizon (R49). -/
def outOfHorizon (d : Device) (t : Time) : Bool := classify d.tb.now t == .outOfHorizon

/-- A timed action is skipped (R32): consumed without an entry, it posts LATE_SKIPPED. -/
def skipLate (n : StreamId) (r : Record) (t : Time) (p : Nat) (d : Device) : Device :=
  postRecord n r .lateSkipped t (lowestLine (StreamRecord.lines r)) (sat32 p) 0
    (advanceAnchor n r t (consume n d))

/-! ## SET, PULSE, TRAIN and MARKER (3.5) -/

/-- The four timed actions that the calendar carries out alone. -/
inductive Action where
  | set | pulse | train | marker
deriving DecidableEq, Repr

/-- The kind of record. -/
def Action.streamKind : Action → StreamKind
  | .set => .set | .pulse => .pulse | .train => .train | .marker => .marker

/-- The kind of entry. -/
def Action.entryKind : Action → EntryKind
  | .set => .set | .pulse => .pulse | .train => .train | .marker => .marker

/-- The phase part at creation (R55, R56). -/
def Action.phasePart (k : Action) (r : Record) : Option PhasePart :=
  match k with
  | .pulse | .train => some { phase := .start, width := (StreamRecord.paramA r).toNat }
  | .set | .marker => none

/-- The train part at creation (R56, R33): the grid origin is the entry's due time. -/
def Action.trainPart (k : Action) (r : Record) (due : Time) : Option TrainPart :=
  match k with
  | .train => some { period := (StreamRecord.paramB r).toNat, remaining := (StreamRecord.short r).toNat, driven := 0,
                     missed := 0, origin := due }
  | .set | .pulse | .marker => none

/-- The entry of a timed action (R54 to R57). -/
def actionEntry (k : Action) (n : StreamId) (r : Record) (prio : Nat) (due : Time) (lateMark : Bool) : Entry :=
  { kind := k.entryKind, stream := n, prio := prio, tag := StreamRecord.tag r, due := due, lines := StreamRecord.lines r,
    levels := StreamRecord.levels r, notify := StreamRecord.notify r, window := StreamRecord.window r,
    lateRun := StreamRecord.lateRun r, lateMark := lateMark, phase := k.phasePart r, train := k.trainPart r due,
    player := none, context := none }

/-- Stage 3 of a timed action: a MARKER names no lines (R48). -/
def actionLineFault (k : Action) (n : StreamId) (r : Record) (d : Device) : Option (RefusalCode × Mask) :=
  match k with
  | .marker => none
  | .set | .pulse | .train => lineFault d n .output (StreamRecord.lines r)

/-- Stages 4 to 8 of a timed action of the calendar (R46, R49, R32, R22, R54). -/
def admitActionTimed (k : Action) (n : StreamId) (r : Record) (d : Device) : Device :=
  let t := resolveTime d n r
  if outOfHorizon d t then refuse n .horizon 0 0 d
  else match judge d.tb.now t (StreamRecord.window r) (StreamRecord.lateRun r) with
    | .skip p => skipLate n r t p d
    | .keep due late =>
      if entryGranted d n then
        insertNew (actionEntry k n r (d.stream n).prio due late) (advanceAnchor n r t (consume n d))
      else waitFor n .space d

/-- The admission of a timed action of the calendar (R46, R54 to R57). -/
def admitAction (k : Action) (n : StreamId) (resumed : Bool) (d : Device) : Device :=
  let r := headRecord (d.stream n)
  if resumed then admitActionTimed k n r d
  else if !fieldsOk k.streamKind r then refuse n .badField 0 0 d
  else match actionLineFault k n r d with
    | some x => refuseLines n x d
    | none => admitActionTimed k n r d

/-! ## PATTERN (6.2) -/

/-- The FREE player of lowest number (R102). -/
def freePlayerOf (d : Device) : Option PlayerId := allPlayers.find? (fun p => (d.player p).state == .free)

/-- The player that takes a PATTERN, with its priming request for min(16, N) steps (R104, R105). -/
def primedPlayer (n : StreamId) (r : Record) : Player :=
  { Player.reset with
    state := .priming, stream := some n, tag := StreamRecord.tag r, table := StreamRecord.table r,
    steps := (StreamRecord.short r).toNat, repeats := StreamRecord.repeats r, lines := StreamRecord.lines r,
    rest := StreamRecord.levels r, begun := 1, request := .pending, asked := min 16 (StreamRecord.short r).toNat }

/-- The PATTERN_STEP entry at creation (R104). -/
def patternEntry (n : StreamId) (r : Record) (prio : Nat) (p : PlayerId) (due : Time) (lateMark : Bool) : Entry :=
  { kind := .patternStep, stream := n, prio := prio, tag := StreamRecord.tag r, due := due, lines := StreamRecord.lines r,
    levels := StreamRecord.levels r, notify := StreamRecord.notify r, window := StreamRecord.window r,
    lateRun := StreamRecord.lateRun r, lateMark := lateMark, phase := none, train := none, player := some p,
    context := none }

/-- Stages 4 to 8 of a PATTERN (R101, R102, R104). -/
def admitPatternTimed (n : StreamId) (r : Record) (d : Device) : Device :=
  let t := resolveTime d n r
  if outOfHorizon d t then refuse n .horizon 0 0 d
  else match judge d.tb.now t (StreamRecord.window r) (StreamRecord.lateRun r) with
    | .skip p => skipLate n r t p d
    | .keep due late =>
      if !entryGranted d n then waitFor n .space d
      else match freePlayerOf d with
        | none => waitFor n .player d
        | some p =>
          insertNew (patternEntry n r (d.stream n).prio p due late)
            (advanceAnchor n r t (consume n (d.modPlayer p (fun _ => primedPlayer n r))))

/-- The admission of a PATTERN (R101). -/
def admitPattern (n : StreamId) (resumed : Bool) (d : Device) : Device :=
  let r := headRecord (d.stream n)
  if resumed then admitPatternTimed n r d
  else if !fieldsOk .pattern r then refuse n .badField 0 0 d
  else match lineFault d n .output (StreamRecord.lines r) with
    | some x => refuseLines n x d
    | none => admitPatternTimed n r d

/-! ## CAPTURE (5.1) -/

/-- The one line of a CAPTURE or ARM (R83, R93). -/
def oneLine (m : Mask) : LineId := (linesOf m).headD 0

/-- An end entry or deadline entry at creation: due at t, or now when t is behind (R84, R94). -/
def contextEntry (kind : EntryKind) (n : StreamId) (r : Record) (prio : Nat) (due : Time) (x : ContextRef) : Entry :=
  { kind := kind, stream := n, prio := prio, tag := StreamRecord.tag r, due := due, lines := StreamRecord.lines r,
    levels := 0, notify := StreamRecord.notify r, window := 0, lateRun := false, lateMark := false, phase := none,
    train := none, player := none, context := some x }

/-- The effective due time of an end time or deadline: t, or now when t is behind (R84, R94). -/
def effectiveDue (d : Device) (t : Time) : Time :=
  match classify d.tb.now t with
  | .behind _ => d.tb.now
  | .present | .ahead _ | .outOfHorizon => t

/-- The context that a CAPTURE opens (R82, R84). -/
def openedCapture (n : StreamId) (r : Record) : Capture :=
  { stream := n, tag := StreamRecord.tag r, edges := edgeSelectOf (StreamRecord.short r).toNat,
    limit := (StreamRecord.paramA r).toNat, captured := 0, missed := 0, notify := StreamRecord.notify r }

/-- Stages 4, 5, 7 and 8 of a CAPTURE (R83, R84); stage 5 is not repeated for a resumed one. -/
def admitCaptureTimed (n : StreamId) (r : Record) (resumed : Bool) (d : Device) : Device :=
  let t := resolveTime d n r
  let l := oneLine (StreamRecord.lines r)
  let timed := !StreamRecord.noEnd r
  if timed && outOfHorizon d t then refuse n .horizon l.val 0 d
  else if !resumed && (d.line l).capture.isSome then refuse n .captureBusy l.val 0 d
  else if timed && !entryGranted d n then waitFor n .space d
  else
    let opened := d.modLine l (fun x => { x with capture := some (openedCapture n r) })
    if timed then
      insertNew (contextEntry .captureEnd n r (d.stream n).prio (effectiveDue d t) (.capture l))
        (advanceAnchor n r t (consume n opened))
    else consume n opened

/-- The admission of a CAPTURE (R83). -/
def admitCapture (n : StreamId) (resumed : Bool) (d : Device) : Device :=
  let r := headRecord (d.stream n)
  if resumed then admitCaptureTimed n r true d
  else if !fieldsOk .capture r then refuse n .badField (lowestLine (StreamRecord.lines r)) 0 d
  else match lineFault d n .input (StreamRecord.lines r) with
    | some x => refuseLines n x d
    | none => admitCaptureTimed n r false d

/-! ## ARM (5.5) -/

/-- The wait that an ARM begins (R92, R94). -/
def begunArm (r : Record) : ArmWait :=
  { line := oneLine (StreamRecord.lines r), tag := StreamRecord.tag r,
    edges := edgeSelectOf (StreamRecord.short r).toNat, notify := StreamRecord.notify r,
    haltOnTimeout := StreamRecord.timeoutHalt r }

/-- Stages 3, 4, 7 and 8 of an ARM (R93, R94): the ARM stays at the head, unconsumed. -/
def admitArmTimed (n : StreamId) (r : Record) (d : Device) : Device :=
  let t := resolveTime d n r
  let l := oneLine (StreamRecord.lines r)
  let timed := !StreamRecord.noEnd r
  if notInMode d .input (StreamRecord.lines r) ≠ 0 then
    refuseLines n (.lineMode, notInMode d .input (StreamRecord.lines r)) d
  else if timed && outOfHorizon d t then refuse n .horizon l.val 0 d
  else if timed && !entryGranted d n then waitFor n .space d
  else
    let begun := waitFor n .arm (d.modStream n (fun s => { s with armWait := some (begunArm r) }))
    if timed then
      insertNew (contextEntry .armDeadline n r (d.stream n).prio (effectiveDue d t) .armWait) begun
    else begun

/-- The admission of an ARM (R93); stage 3 is repeated for a resumed one. -/
def admitArm (n : StreamId) (resumed : Bool) (d : Device) : Device :=
  let r := headRecord (d.stream n)
  if !resumed && !fieldsOk .arm r then refuse n .badField (lowestLine (StreamRecord.lines r)) 0 d
  else admitArmTimed n r d

/-! ## NOP, ANCHOR, WAIT -/

/-- The admission of a NOP (R53). -/
def admitNop (n : StreamId) (d : Device) : Device :=
  let r := headRecord (d.stream n)
  if !fieldsOk .nop r then refuse n .badField 0 0 d
  else
    let d := consume n d
    postNotified n r .nopDone d.tb.now 0 0 0 d

/-- The anchor that an ANCHOR would set (R58). -/
def anchorValue (d : Device) (r : Record) : Time :=
  if StreamRecord.timeRef r = 0 then StreamRecord.time r else d.tb.now + StreamRecord.time r

/-- The admission of an ANCHOR (R58). -/
def admitAnchor (n : StreamId) (d : Device) : Device :=
  let r := headRecord (d.stream n)
  let v := anchorValue d r
  if !fieldsOk .anchor r then refuse n .badField 0 0 d
  else if outOfHorizon d v then refuse n .horizon 0 0 d
  else postNotified n r .done v 0 0 0 (consume n (d.modStream n (fun s => { s with anchor := v })))

/-- The admission of a WAIT (R59). -/
def admitWait (n : StreamId) (d : Device) : Device :=
  let r := headRecord (d.stream n)
  if !fieldsOk .wait r then refuse n .badField 0 0 d
  else
    let count := matchingEntries d n (StreamRecord.tag r) (StreamRecord.short r)
    let d := d.modStream n (fun s => { s with found := count })
    if count = 0 then passWait n d else waitFor n .barrier d

/-! ## CLAIM and RELEASE (4.4, 4.5) -/

/-- The lines of a mask that another stream owns (R70). -/
def ownedByOthers (d : Device) (n : StreamId) (m : Mask) : Mask :=
  maskOf (fun l => inMask m l && (d.line l).owner.any (fun k => k != n))

/-- The lines of a mask that the stream owns (R70). -/
def ownedAlready (d : Device) (n : StreamId) (m : Mask) : Mask :=
  maskOf (fun l => inMask m l && (d.line l).owner == some n)

/-- The admission of a CLAIM (R70). -/
def admitClaim (n : StreamId) (d : Device) : Device :=
  let r := headRecord (d.stream n)
  let m := StreamRecord.lines r
  let already := ownedAlready d n m
  if !fieldsOk .claim r then refuse n .badField 0 0 d
  else if ownedByOthers d n m ≠ 0 then refuseLines n (.claimConflict, ownedByOthers d n m) d
  else
    let d := d.mapLines (fun l x => if inMask m l then { x with owner := some n } else x)
    let d := consume n d
    postNotified n r .done d.tb.now (lowestLine m) (m &&& ~~~already) already d

/-- The admission of a RELEASE (R71, R72). -/
def admitRelease (n : StreamId) (d : Device) : Device :=
  let r := headRecord (d.stream n)
  let m := StreamRecord.lines r
  if !fieldsOk .release r then refuse n .badField 0 0 d
  else if notOwned d n m ≠ 0 then refuseLines n (.notOwner, notOwned d n m) d
  else
    let open' := (linesOf m).filter (fun l => (d.line l).capture.isSome)
    let d := open'.foldl (fun d l => endCapture l d) d
    let count := meetingEntries d n m
    let d := d.modStream n (fun s => { s with found := count, ended := open'.length })
    if count = 0 then completeRelease n d else waitFor n .release d

/-! ## CANCEL (3.8) -/

/-- The entries a CANCEL selects: the stream's, by tag match; no arm wait exists while the stream admits (R61). -/
def cancelSelects (n : StreamId) (r : Record) (e : Entry) : Bool :=
  e.stream == n && e.kind != .armDeadline && tagMatch e.tag (StreamRecord.tag r) (StreamRecord.short r)

/-- A pulse or train whose END is pending (R62). -/
def endPending (e : Entry) : Bool :=
  (e.kind == .pulse || e.kind == .train) && e.phase.any (fun ph => ph.phase == .ending)

/-- The selected entries that FINISH keeps (R62). -/
def cancelKeeps (n : StreamId) (r : Record) (e : Entry) : Bool :=
  cancelSelects n r e && StreamRecord.finish r && endPending e

/-- The selected entries that leave the calendar (R61, R62). -/
def cancelRemoves (n : StreamId) (r : Record) (e : Entry) : Bool := cancelSelects n r e && !cancelKeeps n r e

/-- A kept train ends at its current END (R62). -/
def finishKept (e : Entry) : Entry := { e with train := e.train.map (fun t => { t with remaining := 1 }) }

/-- The rest levels that the removal of an entry drives at once (R62, R63). -/
def cancelDrive (e : Entry) (d : Device) : Device :=
  if endPending e then applyDrive e.lines (~~~e.levels) d
  else match e.kind, e.player with
    | .patternStep, some p => if (d.player p).state = .playing then applyDrive e.lines e.levels d else d
    | _, _ => d

/-- A removed entry is owed a CANCELLED (R64). -/
def cancelOwed (e : Entry) : Bool :=
  e.kind != .captureEnd && (e.notify || e.lateMark || e.kind == .marker)

/-- The extra fields of a CANCELLED (R64, R108). -/
def cancelExtras (d : Device) (e : Entry) : W32 × W32 :=
  match e.kind, e.train, e.player with
  | .train, some t, _ => (sat32 t.driven, sat32 t.missed)
  | .pulse, _, _ => (if endPending e then 1 else 0, 0)
  | .patternStep, _, some p => (sat32 (d.player p).applied, sat32 (d.player p).completed)
  | _, _, _ => (0, 0)

/-- The CANCELLED of a removed entry; `x` its extra fields (R64). -/
def postCancelled (n : StreamId) (e : Entry) (x : W32 × W32) (d : Device) : Device :=
  postStream n (entryKindCode e.kind) .cancelled e.tag d.tb.now (lowestLine e.lines) x.1 x.2 d

/-- The captures a CANCEL selects, in ascending order of line (R61, R64). -/
def cancelCaptures (n : StreamId) (r : Record) (d : Device) : List LineId :=
  allLines.filter (fun l => (d.line l).capture.any (fun c =>
    c.stream == n && tagMatch c.tag (StreamRecord.tag r) (StreamRecord.short r)))

/-- The removal of a CANCEL's selected work but for its completions: drives in list order, patterns ended, entries
removed, kept trains made finite (R61, R62, R63). -/
def cancelWork (n : StreamId) (r : Record) (d : Device) : Device :=
  let removed := d.calendar.filter (cancelRemoves n r)
  let d := removed.foldl (fun d e => cancelDrive e d) d
  let d := removed.foldl (fun d e =>
    match e.kind, e.player with
    | .patternStep, some p => endPattern p d
    | _, _ => d) d
  let d := removeEntries (cancelRemoves n r) d
  { d with calendar := d.calendar.map (fun e => if cancelKeeps n r e then finishKept e else e) }

/-- The admission of a CANCEL (R61 to R64). -/
def admitCancel (n : StreamId) (d : Device) : Device :=
  let r := headRecord (d.stream n)
  if !fieldsOk .cancel r then refuse n .badField 0 0 d
  else
    let removed := d.calendar.filter (cancelRemoves n r)
    let kept := d.calendar.filter (cancelKeeps n r)
    let owed := (removed.filter cancelOwed).map (fun e => (e, cancelExtras d e))
    let captures := cancelCaptures n r d
    let work := (removed.filter countedAtStop).length + captures.length
    let d := consume n (cancelWork n r d)
    let d := owed.foldl (fun d x => postCancelled n x.1 x.2 d) d
    let d := captures.foldl (fun d l => endCapture l d) d
    postNotified n r .cancelDone d.tb.now 0 (sat32 work) (sat32 kept.length) d

/-! ## Stage 1 and resumption -/

/-- A record whose kind names no stream kind (R46). -/
def admitBadKind (n : StreamId) (d : Device) : Device := refuse n .badKind 0 0 d

/-- A record that waited at stage 7 resumes (R52): the kinds that need a calendar entry. -/
def resumeHead (n : StreamId) (d : Device) : Device :=
  let d := setRunning n d
  match streamKindOf (StreamRecord.kind (headRecord (d.stream n))) with
  | some .set => admitAction .set n true d
  | some .pulse => admitAction .pulse n true d
  | some .train => admitAction .train n true d
  | some .marker => admitAction .marker n true d
  | some .pattern => admitPattern n true d
  | some .capture => admitCapture n true d
  | some .arm => admitArm n true d
  | some .nop | some .anchor | some .wait | some .claim | some .release | some .cancel | none => d

/-- The stream admits now, and the record at the head of its prefetch buffer is of the kind `k`; `none` is a kind byte
that names no stream kind (R46, R125). -/
def admits (d : Device) (n : StreamId) (k : Option StreamKind) : Bool :=
  (d.stream n).state == .running && !(d.stream n).buffer.isEmpty &&
    streamKindOf (StreamRecord.kind (headRecord (d.stream n))) == k

/-- An admission of a record of the kind `k`, when the stream has one to admit. -/
def whenAdmits (n : StreamId) (k : Option StreamKind) (f : Device → Device) (d : Device) : Device :=
  if admits d n k then f d else d

end Sys2Proof.Machine
end

