-- ==== Sys2Proof/Machine/Completion.lean ====
section
/-! DEFINITION. The completion unit's writer, its queues' faults and the write path (8.3, 8.4, 8.6, 8.7, 10.4). -/

namespace Sys2Proof.Machine

/-! ## The writer (R143, R145) -/

/-- A queue that is ACTIVE and has room for a record (R140, R143). -/
def queueOpen (d : Device) (q : CqId) : Bool :=
  (d.queue q).state == .active && (((d.queue q).tail + 1) % (d.queue q).size != (d.queue q).head)

/-- The holding buffer holds an eligible record (R143). -/
def hasEligible (d : Device) : Bool := d.holding.any (fun h => queueOpen d h.queue)

/-- A write enters the write path with the read timeout in force (R171) and a fresh identity (log 8). -/
def issueWrite (w : Writer) (addr : Addr) (data : List Byte) (d : Device) : Device :=
  { d with
    writes := d.writes ++ [{ identity := d.nextWrite, writer := w, addr := addr, data := data, timeout := d.ctl.timeout,
                             elapsed := 0, orphaned := false }],
    nextWrite := d.nextWrite + 1 }

/-- The address of the slot at the device tail (8.3). -/
def tailSlot (c : Queue) : Addr := c.base + BitVec.ofNat 64 (32 * c.tail)

/-- The write of a completion record to the slot at its queue's device tail (R140, R143). -/
def issueCompletion (q : CqId) (c : Completion) (overflow : Option W32) (d : Device) : Device :=
  let ctx := d.queue q
  { issueWrite .completion (tailSlot ctx) (completionBytes ctx.phase c) d with
    outstanding := some { identity := d.nextWrite, queue := q, overflow := overflow } }

/-- The OVERFLOW that stands for a prefix (R145). -/
def overflowCompletion (p : W32 × Time) : Completion :=
  { source := .device, kind := 0, status := .overflow, tag := 0, time := p.2, line := 0, head := 0, rising := false,
    frozen := false, x1 := p.1, x2 := 0 }

/-- The writer serves the oldest eligible record of `rest`; `front` holds the records before it (R143, R145). -/
def serveHolding (front : List Held) (d : Device) : List Held → Device
  | [] => d
  | h :: rest =>
    if queueOpen d h.queue then
      match h.overflow with
      | some p =>
        issueCompletion h.queue (overflowCompletion p) (some p.1)
          { d with holding := front ++ { h with overflow := none } :: rest }
      | none => issueCompletion h.queue h.completion none { d with holding := front ++ rest }
    else serveHolding (front ++ [h]) d rest

/-- The writer looks for an eligible record, when no completion write is outstanding (R143). -/
def serveWriter (d : Device) : Device :=
  if d.outstanding.isSome then d else serveHolding [] d d.holding

/-! ## Responses (R140, R146, R171) -/

/-- The write of an identity. -/
def findWrite (d : Device) (identity : Nat) : Option Write := d.writes.find? (fun w => w.identity == identity)

/-- A write has ended and leaves the write path. -/
def dropWrite (identity : Nat) (d : Device) : Device :=
  { d with writes := d.writes.filter (fun w => w.identity != identity) }

/-- The success of a completion write to a queue (R140, R147). -/
def writeSucceeded (q : CqId) (d : Device) : Device :=
  let d := { d with outstanding := none }
  coalesce q (d.modQueue q (fun c =>
    { c with tail := (c.tail + 1) % c.size, phase := if (c.tail + 1) % c.size = 0 then !c.phase else c.phase }))

/-- The losses of the records of a queue discarded at its fault, overflow prefixes included (R146). -/
def faultLoss (q : CqId) (held : List Held) : Nat :=
  ((held.filter (fun h => h.queue == q)).map (fun h =>
    lossOf h.completion + match h.overflow with
      | some p => p.1.toNat
      | none => 0)).sum

/-- A bus error of a completion write makes its queue FAULTED (R146). -/
def faultQueue (o : Outstanding) (d : Device) : Device :=
  let q := o.queue
  let own := match o.overflow with
    | some n => n.toNat
    | none => 1
  let d := addLost q (own + faultLoss q d.holding) { d with outstanding := none }
  let d := { d with holding := d.holding.filter (fun h => h.queue != q) }
  let d := signalRemaining q d
  setEvent (faultBit q) (d.modQueue q (fun c => { c with state := .faulted, timer := none }))

/-- A response to a snapshot write is counted (R162). -/
def countSnapshot (success : Bool) (d : Device) : Device :=
  d.modCtl (fun c => { c with query := c.query.map (fun q =>
    { q with answered := q.answered + 1, failures := if success then q.failures else q.failures + 1 }) })

/-- A write ends (R171): a write outstanding at a soft reset is reported to no issuer. -/
def endWrite (w : Write) (success : Bool) (d : Device) : Device :=
  let d := dropWrite w.identity d
  if w.orphaned then d
  else match w.writer with
    | .snapshot => countSnapshot success d
    | .completion =>
      match d.outstanding with
      | none => d
      | some o => if success then writeSucceeded o.queue d else faultQueue o d

/-- A response to the write of an identity, when it is outstanding and of that kind. -/
def answerWrite (identity : Nat) (kind : Writer) (success : Bool) (d : Device) : Device :=
  match findWrite d identity with
  | none => d
  | some w => if w.writer = kind then endWrite w success d else d

/-- A write runs out its timeout and is reported as a bus error (R171). -/
def timeOutWrite (identity : Nat) (d : Device) : Device :=
  match findWrite d identity with
  | none => d
  | some w => endWrite w false d

/-- The coalescing timer of a queue runs out (R147). -/
def timerRunsOut (q : CqId) (d : Device) : Device :=
  if (d.queue q).timer.isSome ∧ 0 < (d.queue q).unsignalled then raiseAttention q d else d

/-- A write of 1 to EVENT CQn_ATTN (R148). With u at 0 nothing more happens, whatever C (log 20). -/
def clearAttention (q : CqId) (d : Device) : Device :=
  let d := clearEvent (attnBit q) d
  let c := d.queue q
  if c.unsignalled = 0 then d
  else if c.countThreshold ≤ c.unsignalled then raiseAttention q d
  else if c.timeThreshold ≠ 0 then d.modQueue q (fun c => { c with timer := some 0 })
  else d

/-- A head write to a completion queue (R141). -/
def writeHead (q : CqId) (index : Nat) (d : Device) : Device :=
  let c := d.queue q
  if c.state = .active ∧ index < c.size ∧ ringSpan index c.head c.size ≤ ringSpan c.tail c.head c.size then
    d.modQueue q (fun c => { c with head := index })
  else cmdIgnored d

end Sys2Proof.Machine
end

