-- ==== Sys2Proof/Machine/DeviceStates.lean ====
section
/-! DEFINITION. The device state machine, the resets and the teardown (9.1, 9.3, 9.4), and the timebase's own
transitions (chapter 1). -/

namespace Sys2Proof.Machine

/-! ## Timebase (chapter 1) -/

/-- Entry into RUNNING, with the divider count at 0 (R1, R2). -/
def enterRunning (d : Device) : Device := d.modTb (fun t => { t with mode := .running, divider := 0 })

/-- The timebase leaves RUNNING or LOST with its device time kept and the divider count at 0 (R5, R8, R14). -/
def stopTime (m : TbMode) (d : Device) : Device := d.modTb (fun t => { t with mode := m, divider := 0 })

/-- A tick (R1). Device time does not move past an entry that is due now and has not expired (R18, R24): the commands
that come here take the whole instant first, and only an instant of more urgent events than they take at once is left for
the next step (log 21). -/
def advanceTime (d : Device) : Device :=
  if dueNow d then d else d.modTb (fun t => { t with now := t.now + 1, divider := 0 })

/-- The monitor takes a gap (R6), and a RUNNING timebase becomes LOST (R8). -/
def takeGap (d : Device) : Device :=
  let wasPresent := d.tb.present
  let d := d.modTb (fun t => { t with gap := Config.gapLimit, qual := 0, present := false })
  if wasPresent ∧ d.tb.mode = .running then postTimebase .refLost (stopTime .lost d) else d

/-- The reference-present flag sets (R7), and a LOST timebase becomes RUNNING (R9). Its REF_RESTORED comes before the
completions of the entries that expire at the entry into RUNNING (DESIGN CHOICE, log 33). -/
def qualify (d : Device) : Device :=
  let d := d.modTb (fun t => { t with qual := Config.qualificationLimit, present := true })
  if d.tb.mode = .lost then postTimebase .refRestored (enterRunning d) else d

/-- The monitor's part of a rising edge of the reference clock (R6, R7). -/
def countEdge (d : Device) : Device :=
  let d := d.modTb (fun t => { t with gap := 0 })
  if d.tb.present then d
  else if d.tb.qual + 1 < Config.qualificationLimit then d.modTb (fun t => { t with qual := t.qual + 1 })
  else qualify d

/-- The timebase's part of a rising edge: in RUNNING the divider count rises, and at P it returns to 0 with a tick (R1). -/
def countDivider (d : Device) : Device :=
  if d.tb.divider + 1 < d.tb.prescale then d.modTb (fun t => { t with divider := t.divider + 1 }) else advanceTime d

/-- One rising edge of the reference clock (R1, R6, R7). An edge that makes the timebase RUNNING is not counted towards
the first tick, which falls on the P-th edge after the entry (R1). -/
def referenceEdge (d : Device) : Device := if d.isRunning then countDivider (countEdge d) else countEdge d

/-! ## Teardown and resets (9.3, 9.4) -/

/-- The completion unit is settled: no completion write outstanding and no eligible record (R149). -/
def completionSettled (d : Device) : Bool := d.outstanding.isNone && !hasEligible d

/-- The teardown is complete (R155). -/
def teardownOver (d : Device) : Bool :=
  d.ctl.mode == .stopping && allStreams.all (fun n => (d.stream n).state == .idle) && d.reads.isEmpty &&
    d.ctl.query.isNone && completionSettled d

/-- Every block but the read table, the write path and the host port's registers at its reset values (R14, R40, R79,
R99, R115, R135, R150, R163, R170); what a passage or a reset keeps, its caller puts back. -/
def clearBlocks (d : Device) : Device :=
  { Device.reset with host := d.host, reads := d.reads, writes := d.writes, nextRead := d.nextRead,
                      nextWrite := d.nextWrite }

/-- The passage to OFF (R155): attention for each queue with unsignalled records (R149), then every block at its values
after STOPPING to OFF, with the TIME_HI latch kept (R14). -/
def passToOff (d : Device) : Device :=
  let d := allQueues.foldl (fun d q => signalRemaining q d) d
  (clearBlocks d).modTb (fun t => { t with timeHi := d.tb.timeHi })

/-- A soft reset (R156): reads and writes in flight take the orphaned mark, EVENT is cleared, BOOT_ADDR and EVENT_MASK
keep their values. -/
def softReset (d : Device) : Device :=
  { clearBlocks d with
    reads := d.reads.map (fun r => { r with orphaned := true }),
    writes := d.writes.map (fun w => { w with orphaned := true }),
    host := { d.host with event := 0 } }

/-- A pin reset (R157): every block at its values after pin reset while RESET_N is low; reads and writes are forgotten.
The identities already used are not used again (log 8). -/
def pinReset (d : Device) : Device :=
  { Device.reset with host := { Device.reset.host with resetN := false }, nextRead := d.nextRead,
                      nextWrite := d.nextWrite }

/-- ENABLE written 1 (R151). -/
def enableDevice (d : Device) : Device :=
  if !quiet d then cmdIgnored d
  else match d.ctl.mode with
    | .off => d.modCtl (fun c => { c with mode := .loading, boot := .pending })
    | .stopping => cmdIgnored d
    | .loading | .on | .failed => d

/-- The entry into STOPPING (R154). Its one event stops the streams, and so posts their STREAM_STOPPED, in ascending order
of their numbers, which the spec leaves open (DESIGN CHOICE, log 29). -/
def beginStopping (d : Device) : Device :=
  let d := stopTime .held d
  let d := allStreams.foldl (fun d n =>
    match (d.stream n).state with
    | .running | .waiting | .halted => stopStream n d
    | .idle | .stopping => d) d
  d.modCtl (fun c =>
    { c with mode := .stopping, buffer := [], request := withdraw c.request, boot := withdraw c.boot })

/-- ENABLE written 0 (R151, R154, R155); the passage to OFF comes within the disable when the teardown is complete. -/
def disableDevice (d : Device) : Device :=
  if !quiet d then cmdIgnored d
  else match d.ctl.mode with
    | .on | .loading =>
      let d := beginStopping d
      if teardownOver d then passToOff d else d
    | .failed => passToOff d
    | .off | .stopping => d

/-- The entry into FAILED (R152). -/
def failBoot (d : Device) : Device :=
  setEvent bootFailBit (d.modCtl (fun c => { c with mode := .failed, boot := .idle }))

/-- The entry into ON (R153, R139). -/
def enterOn (b : BootBlock) (d : Device) : Device :=
  let d := d.modCtl (fun c =>
    { c with mode := .on, base := BitVec.ofNat 64 b.base, size := b.size, head := 0, tail := 0, buffer := [],
             request := .idle, query := none, timeout := b.timeout, boot := .idle })
  let d := d.modQueue 0 (fun c =>
    { c with state := .active, base := BitVec.ofNat 64 b.cqBase, size := b.cqSize, tail := 0, head := 0, phase := true,
             lost := 0, countThreshold := b.countThreshold, timeThreshold := b.timeThreshold, unsignalled := 0,
             timer := none })
  setEvent bootDoneBit d

/-- The bootstrap read ends (R152, R153); in STOPPING what it brings is discarded (R154). -/
def bootReadEnd (r : ReadEnd) (d : Device) : Device :=
  if d.ctl.mode ≠ .loading then d.modCtl (fun c => { c with boot := .idle })
  else match r with
    | .data bytes => if bootBlockOk bytes then enterOn (bootBlockOf bytes) d else failBoot d
    | .busError | .timedOut => failBoot d

end Sys2Proof.Machine
end

