-- ==== Sys2Proof/Machine/HostReads.lean ====
section
/-! DEFINITION. The read arbiter and the read table (10.3): which request is granted, what is read, and what the end of
a read brings to its issuer. -/

namespace Sys2Proof.Machine

/-! ## The grant (R170) -/

/-- A read enters the read table with a fresh identity (R169, log 8). -/
def issueRead (i : Issuer) (addr : Addr) (length timeout : Nat) (d : Device) : Device :=
  { d with
    reads := d.reads ++ [{ identity := d.nextRead, issuer := i, addr := addr, length := length, timeout := timeout,
                           elapsed := 0, orphaned := false }],
    nextRead := d.nextRead + 1 }

/-- The number of records of a ring read (R122, R159). -/
def ringReadCount (buffered unfetched size index : Nat) : Nat :=
  min (Config.prefetchPlaces - buffered) (min unfetched (size - index))

/-- The address of a record of a ring. -/
def ringAddress (base : Addr) (index : Nat) : Addr := base + BitVec.ofNat 64 (32 * index)

/-- The bootstrap request is granted (R152). -/
def grantBoot (d : Device) : Device :=
  if d.host.bootAddr.toNat % 64 = 0 then
    issueRead .bootstrap d.host.bootAddr 64 Config.bootTimeout (d.modCtl (fun c => { c with boot := .inFlight 1 }))
  else failBoot d

/-- The request of a player is granted (R105). -/
def grantPlayer (p : PlayerId) (d : Device) : Device :=
  let pl := d.player p
  issueRead (.player p) (pl.table + BitVec.ofNat 64 (8 * pl.cursor)) (8 * pl.asked) d.ctl.timeout
    (d.modPlayer p (fun pl => { pl with request := .inFlight pl.asked }))

/-- The request of the control ring processor is granted (R159). -/
def grantControl (d : Device) : Device :=
  let c := d.ctl
  let index := (c.head + controlFetched c) % c.size
  let n := ringReadCount c.buffer.length (ringSpan c.tail c.head c.size - controlFetched c) c.size index
  issueRead .control (ringAddress c.base index) (32 * n) c.timeout
    (d.modCtl (fun c => { c with request := .inFlight n }))

/-- The round-robin position of a priority (R170). -/
def roundRobinAt (d : Device) (prio : Nat) : Option StreamId := d.roundRobin.get (Fin.ofNat 8 prio)

/-- The request of a stream is granted (R122, R170). -/
def grantStream (n : StreamId) (d : Device) : Device :=
  let s := d.stream n
  let k := ringReadCount s.buffer.length (ringSpan s.tail s.head s.size - fetchedCount s) s.size (fetchIndex s)
  issueRead (.stream n) (ringAddress s.base (fetchIndex s)) (32 * k) d.ctl.timeout
    { d.modStream n (fun s => { s with request := .inFlight k }) with
      roundRobin := d.roundRobin.set (Fin.ofNat 8 s.prio).val (some n) (Fin.ofNat 8 s.prio).isLt }

/-- The cycle of the streams that begins after a round-robin position (R170). -/
def cycleAfter : Option StreamId → List StreamId
  | none => allStreams
  | some k => allStreams.map (fun i => k + 1 + i)

/-- The streams with a pending request. -/
def pendingStreams (d : Device) : List StreamId := allStreams.filter (fun n => (d.stream n).request == .pending)

/-- The greatest priority among the streams of a list. -/
def topPriority (d : Device) (ns : List StreamId) : Nat := ns.foldl (fun m n => max m (d.stream n).prio) 0

/-- The stream that the arbiter grants (R170, item 4). -/
def chosenStream (d : Device) : Option StreamId :=
  let top := topPriority d (pendingStreams d)
  (cycleAfter (roundRobinAt d top)).find? (fun n => (d.stream n).request == .pending && (d.stream n).prio == top)

/-- The player that the arbiter grants (R170, item 2). -/
def chosenPlayer (d : Device) : Option PlayerId := allPlayers.find? (fun p => (d.player p).request == .pending)

/-- One grant of the read arbiter, when a slot is free and a request is pending (R170). -/
def grantRead (d : Device) : Device :=
  if Config.readSlots ≤ d.reads.length then d
  else if d.ctl.boot = .pending then grantBoot d
  else match chosenPlayer d with
    | some p => grantPlayer p d
    | none =>
      if d.ctl.request = .pending then grantControl d
      else match chosenStream d with
        | some n => grantStream n d
        | none => d

/-! ## The end of a read (R169) -/

/-- The entries that the end of a control ring read appends (R159). -/
def controlEntries (n : Nat) : ReadEnd → List ControlEntry
  | .data bytes => (recordsOf bytes n).map .record
  | .busError => List.replicate n (.failedPlace 1)
  | .timedOut => List.replicate n (.failedPlace 2)

/-- The read of the control ring ends (R159); in STOPPING what it brings is discarded (R154). The fetch test is made here,
before the records that the read brings can be taken (DESIGN CHOICE, log 38). -/
def controlReadEnd (r : ReadEnd) (d : Device) : Device :=
  match d.ctl.mode, d.ctl.request with
  | .on, .inFlight n =>
    controlFetchTest (d.modCtl (fun c => { c with buffer := c.buffer ++ controlEntries n r, request := .idle }))
  | _, _ => d.modCtl (fun c => { c with request := .idle })

/-- The end of a read is handed to its issuer (R169). -/
def handRead (i : Issuer) (r : ReadEnd) (d : Device) : Device :=
  match i with
  | .bootstrap => bootReadEnd r d
  | .player p => playerReadEnd p r d
  | .control => controlReadEnd r d
  | .stream n => streamReadEnd n r d

/-- The read of an identity. -/
def findRead (d : Device) (identity : Nat) : Option Read := d.reads.find? (fun x => x.identity == identity)

/-- What a read brings fits it: the data of the whole range (R169, log 10). -/
def endFits (x : Read) : ReadEnd → Bool
  | .data bytes => bytes.length == x.length
  | .busError | .timedOut => true

/-- A read ends: its slot is freed, and its end goes to its issuer or, for an orphaned read, is discarded (R156, R169).
An end for an identity of no read in the table changes nothing. -/
def endRead (identity : Nat) (r : ReadEnd) (d : Device) : Device :=
  match findRead d identity with
  | none => d
  | some x =>
    if !endFits x r then d
    else
      let d := { d with reads := d.reads.filter (fun y => y.identity != identity) }
      if x.orphaned then d else handRead x.issuer r d

end Sys2Proof.Machine
end

