-- ==== Sys2Proof/Machine/Settle.lean ====
section
/-! DEFINITION. The events of the part that follow at once from what has happened, before anything else may: the firing
of an arm wait handed an edge (R95), the test of a freeing report (R21), the passage of a stopped stream to IDLE (R133),
the rest of an expiry instant (R24), the arbiters of free space and of players (R23, R103), the consumption of an
answered QUERY (R162), the passage to OFF (R155), the run of the read arbiter (R170) and the issue of a completion write
(R143). A command first takes those that come before it (log 3). -/

namespace Sys2Proof.Machine

/-- The urgent events, in the order in which they are taken (log 3). -/
inductive Urgency where
  | edge | report | stopped | expiry | space | player | query | teardown | grant | write
deriving DecidableEq, Repr

/-- An arm wait takes the edge handed to it (R95). -/
def urgentEdge (d : Device) : Option Device :=
  match d.edges with
  | [] => none
  | h :: rest => some (fireArm h { d with edges := rest })

/-- The oldest freeing report is tested (R21). -/
def urgentReport (d : Device) : Option Device :=
  match d.reports with
  | [] => none
  | x :: rest => some (testReport x { d with reports := rest })

/-- A STOPPING stream without a read passes to IDLE (R133). -/
def urgentStopped (d : Device) : Option Device := (allStreams.find? (stopOver d)).map (fun n => becomeIdle n d)

/-- An expiry instant that has begun goes on (R24). -/
def urgentExpiry (d : Device) : Option Device := if d.instantOpen then some (expireHead d) else none

/-- The streams that wait for a reason. -/
def waitingFor (d : Device) (w : WaitReason) : List StreamId :=
  allStreams.filter (fun n => (d.stream n).state == .waiting && (d.stream n).reason == w)

/-- The stream of the greatest priority, and of the lowest number among equals, of a list in ascending order (R23,
R103). -/
def firstByPriority (d : Device) (ns : List StreamId) : Option StreamId :=
  ns.find? (fun n => (d.stream n).prio == topPriority d ns)

/-- The stream that the arbiter of free space serves next (R23). -/
def spaceChoice (d : Device) : Option StreamId :=
  firstByPriority d ((waitingFor d .space).filter (entryGranted d))

/-- The arbiter of free space serves a stream (R23). -/
def urgentSpace (d : Device) : Option Device := (spaceChoice d).map (fun n => resumeHead n d)

/-- The stream that the arbiter of players serves next (R103). -/
def playerChoice (d : Device) : Option StreamId :=
  if (freePlayerOf d).isSome then firstByPriority d (waitingFor d .player) else none

/-- The arbiter of players serves a stream (R103). -/
def urgentPlayer (d : Device) : Option Device := (playerChoice d).map (fun n => resumeHead n d)

/-- The four writes of a QUERY have been answered (R162). -/
def queryAnswered (d : Device) : Bool := d.ctl.query.any (fun q => decide (4 ≤ q.answered))

/-- A QUERY is consumed and posts its completion (R162). -/
def consumeQuery (d : Device) : Device :=
  match d.ctl.query with
  | none => d
  | some q =>
    let d := controlConsume (d.modCtl (fun c => { c with query := none }))
    if q.failures = 0 then postControl 0x2A .controlDone q.tag 0 0 0 d
    else postControl 0x2A .controlRefused q.tag 0 (refusalCode .busError) (BitVec.ofNat 32 q.failures) d

/-- An answered QUERY is consumed (R162). -/
def urgentQuery (d : Device) : Option Device := if queryAnswered d then some (consumeQuery d) else none

/-- A complete teardown passes to OFF (R155). -/
def urgentTeardown (d : Device) : Option Device := if teardownOver d then some (passToOff d) else none

/-- A slot of the read table is free and a request is pending (R170). -/
def grantPossible (d : Device) : Bool :=
  decide (d.reads.length < Config.readSlots) &&
    (d.ctl.boot == .pending || (chosenPlayer d).isSome || d.ctl.request == .pending || (chosenStream d).isSome)

/-- The read arbiter runs (R170): one grant. It comes after the other consequences of its event (log 31), and before the
next admission or control record (DESIGN CHOICE, log 38). -/
def urgentGrant (d : Device) : Option Device := if grantPossible d then some (grantRead d) else none

/-- The writer takes an eligible record, when no completion write is outstanding (R143), after the other consequences of
its event (log 31). -/
def urgentWrite (d : Device) : Option Device :=
  if d.outstanding.isNone && hasEligible d then some (serveWriter d) else none

/-- What comes only when no expiry instant is open: an instant is one event for the arbiters (R23, R24). -/
def afterInstant (d : Device) (x : Option Device) : Option Device := if d.instantOpen then none else x

/-- The urgent event of one kind. -/
def urgentOf (u : Urgency) (d : Device) : Option Device :=
  match u with
  | .edge => urgentEdge d
  | .report => urgentReport d
  | .stopped => urgentStopped d
  | .expiry => urgentExpiry d
  | .space => afterInstant d (urgentSpace d)
  | .player => afterInstant d (urgentPlayer d)
  | .query => afterInstant d (urgentQuery d)
  | .teardown => afterInstant d (urgentTeardown d)
  | .grant => afterInstant d (urgentGrant d)
  | .write => afterInstant d (urgentWrite d)

/-- Every kind of urgent event, in order. -/
def allUrgencies : List Urgency :=
  [.edge, .report, .stopped, .expiry, .space, .player, .query, .teardown, .grant, .write]

/-- An instant whose entries are due now but that has not begun is taken when device time is to move (`due`), after
everything else: the arbiters run at the events before it (R23, R103, R170). -/
def urgentInstant (due : Bool) (d : Device) : Option Device := if due && dueNow d then some (expireHead d) else none

/-- The first urgent event of the kinds listed. -/
def urgent (due : Bool) (us : List Urgency) (d : Device) : Option Device :=
  (us.findSome? (fun u => urgentOf u d)).or (urgentInstant due d)

/-- At most `fuel` urgent events, one after another. -/
def settleLoop (due : Bool) (us : List Urgency) : Nat → Device → Device
  | 0, d => d
  | k + 1, d =>
    match urgent due us d with
    | none => d
    | some d' => settleLoop due us k d'

/-- Every urgent event of the kinds listed is taken (log 3, log 21). -/
def settle (due : Bool) (us : List Urgency) (d : Device) : Device := settleLoop due us Config.settleFuel d

/-- No urgent event is pending: the next command is taken as it stands. -/
def calm (due : Bool) (us : List Urgency) (d : Device) : Bool := (urgent due us d).isNone

/-- The urgent events that come before an expiry (log 3): within an open instant the first three kinds alone. -/
def beforeExpiry : List Urgency := [.edge, .report, .stopped, .space, .player, .query, .teardown, .grant, .write]

/-- What comes before the passage of a stopped stream to IDLE (R133). -/
def beforeStopped : List Urgency := [.edge, .report]

/-- What comes before the service of the arbiter of free space (R21, R23). -/
def beforeSpace : List Urgency := beforeStopped ++ [.stopped, .expiry]

/-- What comes before the service of the arbiter of players (R23). -/
def beforePlayer : List Urgency := beforeSpace ++ [.space]

/-- What comes before the consumption of a QUERY. -/
def beforeQuery : List Urgency := beforePlayer ++ [.player]

/-- What comes before the passage to OFF. -/
def beforeTeardown : List Urgency := beforeQuery ++ [.query]

/-- What comes before a grant of the read arbiter. -/
def beforeGrant : List Urgency := beforeTeardown ++ [.teardown]

/-- What comes before a CANCEL, a STOP, a DISABLE and a write of BOOT_ADDR: every kind but the run of the read arbiter. A
request made pending at the same instant, by a read that has just returned, is withdrawn by the first three and takes no
slot (R112, R113, R134, R135), and the write of BOOT_ADDR, before the grant, changes the address read (R152; log 32). -/
def allButGrant : List Urgency := beforeGrant ++ [.write]

/-- What comes before the issue of a completion write. -/
def beforeWrite : List Urgency := beforeGrant ++ [.grant]

end Sys2Proof.Machine
end

