-- ==== Sys2Proof/Machine/ControlRing.lean ====
section
/-! DEFINITION. The control ring processor's records (9.5, 9.6): the checks of each control kind and its effect. Each
`take…` acts on the record at the head of the control buffer. -/

namespace Sys2Proof.Machine

/-! ## Taking an entry (R160) -/

/-- The processor takes entries: the device is ON and no QUERY is in progress (R160). -/
def takesControl (d : Device) : Bool := d.ctl.mode == .on && d.ctl.query.isNone

/-- The record at the head of the control buffer is one of the kind `k`, and is taken; `none` is a kind byte that names
no control kind (R160). -/
def whenTakes (k : Option ControlKind) (f : Record → Device → Device) (d : Device) : Device :=
  match d.ctl.buffer with
  | .record r :: _ => if takesControl d && controlKindOf (StreamRecord.kind r) == k then f r d else d
  | .failedPlace _ :: _ | [] => d

/-- A record is refused and consumed (R160). -/
def refuseControl (r : Record) (code : RefusalCode) (line : Nat) (d : Device) : Device :=
  controlRefused r code line 0 (controlConsume d)

/-- A kind that names no control kind (R160). -/
def takeBadKind (r : Record) (d : Device) : Device := refuseControl r .badKind 0 d

/-- A failed place is refused with BUS_ERROR, with kind none, tag 0 and its cause (R160). -/
def takeFailedPlace (d : Device) : Device :=
  match d.ctl.buffer with
  | .failedPlace cause :: _ =>
    if takesControl d then
      postControl 0 .controlRefused 0 0 (refusalCode .busError) (BitVec.ofNat 32 cause) (controlConsume d)
    else d
  | .record _ :: _ | [] => d

/-- A C_NOP (R161). -/
def takeNop (r : Record) (d : Device) : Device :=
  if !reservedClear .cNop r then refuseControl r .badField 0 d else controlDone r 0 0 0 (controlConsume d)

/-! ## Time records (1.3, 1.5) -/

/-- The timebase state in the first extra field of a CONTROL_DONE (R4, R5, 12.10). -/
def tbCode (d : Device) : W32 := BitVec.ofNat 32 (tbModeCode d.tb.mode)

/-- What TIME_RUN does to the timebase (R4). -/
def runTime (d : Device) : Device :=
  match d.tb.mode with
  | .held => if d.tb.present then enterRunning d else d.modTb (fun t => { t with mode := .lost })
  | .running | .lost => d

/-- A TIME_RUN (R4). Its CONTROL_DONE comes before the completions of the entries that expire at the entry into RUNNING,
an order that the spec leaves open: R142 lets either be first, and R35 orders steps alone (DESIGN CHOICE, log 33). -/
def takeTimeRun (r : Record) (d : Device) : Device :=
  if !reservedClear .timeRun r then refuseControl r .badField 0 d
  else
    let d := runTime (controlConsume d)
    controlDone r 0 (tbCode d) 0 d

/-- A TIME_HOLD (R5). -/
def takeTimeHold (r : Record) (d : Device) : Device :=
  if !reservedClear .timeHold r then refuseControl r .badField 0 d
  else
    let d := stopTime .held (controlConsume d)
    controlDone r 0 (tbCode d) 0 d

/-- A prescale that TIME_CONFIG accepts (R10). -/
def prescaleOk (p : Nat) : Bool := decide (1 ≤ p) && decide (p ≤ 256)

/-- A TIME_CONFIG (R10). -/
def takeTimeConfig (r : Record) (d : Device) : Device :=
  let p := fieldAt r 16 2
  if !reservedClear .timeConfig r || !prescaleOk p || d.tb.mode != .held then refuseControl r .badField 0 d
  else controlDone r 0 0 0 ((controlConsume d).modTb (fun t => { t with prescale := p }))

/-- A step taken (R12): TIME_STEPPED, then CONTROL_DONE, both in CQ0, and the expiry instant of a step in RUNNING (R24,
R35). -/
def takeStep (r : Record) (delta : Int) (d : Device) : Device :=
  let x := stepTime delta (controlConsume d)
  let d := postControl (StreamRecord.kind r) .timeStepped (StreamRecord.tag r) 0 (sat32 x.late) (sat32 x.skipped) x.dev
  let d := controlDone r 0 0 0 d
  { d with instantOpen := d.instantOpen || dueNow d }

/-- A TIME_STEP (R12). -/
def takeTimeStep (r : Record) (d : Device) : Device :=
  let delta := (StreamRecord.time r).toInt
  if !reservedClear .timeStep r || decide (Config.horizon < delta.natAbs) then refuseControl r .badField 0 d
  else if !stepAllowed delta d then refuseControl r .horizon 0 d
  else takeStep r delta d

/-- A TIME_SET (R11): with an empty calendar a new value, otherwise a step. -/
def takeTimeSet (r : Record) (d : Device) : Device :=
  let new := StreamRecord.time r
  let delta := (new - d.tb.now).toInt
  if !reservedClear .timeSet r then refuseControl r .badField 0 d
  else if d.calendar.isEmpty then controlDone r 0 0 0 ((controlConsume d).modTb (fun t => { t with now := new }))
  else if decide (Config.horizon < delta.natAbs) || !stepAllowed delta d then refuseControl r .horizon 0 d
  else takeStep r delta d

/-! ## Configuration records -/

/-- The stream that a CONFIGURE_STREAM names, when its fields are in range (R118, first check). -/
def namedStream (r : Record) : Option StreamId :=
  let n := fieldAt r 4 1
  if decide (1 ≤ n) && decide (n ≤ 8) && ringSizeOk (fieldAt r 16 2) && ringBaseOk (fieldAt r 8 8) (fieldAt r 16 2) &&
      decide (fieldAt r 5 1 ≤ 7) && decide (1 ≤ fieldAt r 18 2) && decide (fieldAt r 18 2 ≤ 512) &&
      decide (fieldAt r 6 1 ≤ 3) && reservedClear .configureStream r then
    some (Fin.ofNat 8 (n - 1))
  else none

/-- The target queue of a CONFIGURE_STREAM. -/
def namedTarget (r : Record) : CqId := Fin.ofNat 4 (fieldAt r 6 1)

/-- The five fields that a CONFIGURE_STREAM writes (R118). -/
def configuredStream (r : Record) (s : Stream) : Stream :=
  { s with configured := true, base := BitVec.ofNat 64 (fieldAt r 8 8), size := fieldAt r 16 2, prio := fieldAt r 5 1,
           quota := fieldAt r 18 2, target := namedTarget r }

/-- A CONFIGURE_STREAM (R118). -/
def takeConfigureStream (r : Record) (d : Device) : Device :=
  match namedStream r with
  | none => refuseControl r .badField 0 d
  | some n =>
    if (d.stream n).state ≠ .idle then refuseControl r .streamBusy 0 d
    else if (d.queue (namedTarget r)).state ≠ .active then refuseControl r .badField 0 d
    else controlDone r 0 (BitVec.ofNat 32 (n.val + 1)) 0 ((controlConsume d).modStream n (configuredStream r))

/-- The queue that a CONFIGURE_CQ names, when its fields are in range (R138). -/
def namedQueue (r : Record) : Option CqId :=
  let q := fieldAt r 4 1
  if decide (q ≤ 3) && ringSizeOk (fieldAt r 16 2) && ringBaseOk (fieldAt r 8 8) (fieldAt r 16 2) &&
      decide (1 ≤ fieldAt r 5 1) && reservedClear .configureCq r then
    some (Fin.ofNat 4 q)
  else none

/-- What a CONFIGURE_CQ makes of a queue context (R138): the lost count keeps its value. -/
def configuredQueue (r : Record) (c : Queue) : Queue :=
  { c with state := .active, base := BitVec.ofNat 64 (fieldAt r 8 8), size := fieldAt r 16 2, tail := 0, head := 0,
           phase := true, countThreshold := fieldAt r 5 1, timeThreshold := fieldAt r 6 2, unsignalled := 0,
           timer := none }

/-- A CONFIGURE_CQ (R138). -/
def takeConfigureCq (r : Record) (d : Device) : Device :=
  match namedQueue r with
  | none => refuseControl r .badField 0 d
  | some q =>
    if (d.queue q).state = .active then refuseControl r .cqBusy 0 d
    else controlDone r 0 (BitVec.ofNat 32 q.val) 0 ((controlConsume d).modQueue q (configuredQueue r))

/-- The mode that a mode value names (12.10). -/
def lineModeOf (n : Nat) : Option LineMode :=
  match n with
  | 0 => some .unassigned
  | 1 => some .output
  | 2 => some .input
  | _ => none

/-- The line of a CONFIGURE_LINE when its number is in range (R67). -/
def namedLine (r : Record) : Option LineId :=
  if fieldAt r 4 1 ≤ 31 then some (Fin.ofNat 32 (fieldAt r 4 1)) else none

/-- The line and mode of a CONFIGURE_LINE whose fields are in range (R67). -/
def namedLineMode (r : Record) : Option (LineId × LineMode) :=
  if decide (fieldAt r 6 1 ≤ 1) && decide (fieldAt r 7 1 ≤ 15) && reservedClear .configureLine r then
    match namedLine r, lineModeOf (fieldAt r 5 1) with
    | some l, some m => some (l, m)
    | _, _ => none
  else none

/-- What an accepted CONFIGURE_LINE makes of a line (R67, R68, R69); `level` is the sample of R69, after which the
sampling of R75 begins (log 37). -/
def configuredLine (r : Record) (m : LineMode) (level : Bool) (x : Line) : Line :=
  let safe := fieldAt r 6 1 == 1
  let x := { x with mode := m, safe := safe, filterLength := fieldAt r 7 1, agree := 0, sampled := false }
  match m with
  | .output => { x with out := safe, filtered := false }
  | .input => { x with out := false, filtered := level }
  | .unassigned => { x with out := false, filtered := false }

/-- The level in the first extra field of CONTROL_DONE (R68, R69). -/
def levelTaken (x : Line) : Bool :=
  match x.mode with
  | .output => x.out
  | .input => x.filtered
  | .unassigned => false

/-- The line field of a CONFIGURE_LINE's completion: the record's line number, 0 when out of range (R67). -/
def lineField (r : Record) : Nat := if fieldAt r 4 1 ≤ 31 then fieldAt r 4 1 else 0

/-- A CONFIGURE_LINE (R67). -/
def takeConfigureLine (level : Bool) (r : Record) (d : Device) : Device :=
  match namedLineMode r with
  | none => refuseControl r .badField (lineField r) d
  | some (l, m) =>
    if (d.line l).owner.isSome || decide (0 < watchCount d l) then refuseControl r .lineBusy (lineField r) d
    else
      let d := (controlConsume d).modLine l (configuredLine r m level)
      controlDone r (lineField r) (BitVec.ofNat 32 (levelTaken (d.line l)).toNat) 0 d

/-- Every stream below the threshold withdraws a pending request, and every stream that reaches it makes its fetch test
(R119). -/
def applyThreshold (d : Device) : Device :=
  allStreams.foldl (fun d n =>
    if (d.stream n).prio < d.threshold then d.modStream n (fun s => { s with request := withdraw s.request })
    else fetchTest n d) d

/-- A SET_THRESHOLD (R119). -/
def takeSetThreshold (r : Record) (d : Device) : Device :=
  let new := fieldAt r 4 1
  if decide (7 < new) || !reservedClear .setThreshold r then refuseControl r .badField 0 d
  else
    let old := d.threshold
    controlDone r 0 (BitVec.ofNat 32 new) (BitVec.ofNat 32 old)
      (applyThreshold { controlConsume d with threshold := new })

/-! ## QUERY (9.6, 12.6) -/

/-- Bytes 0 to 31 of the snapshot: the device part. -/
def snapshotDevice (d : Device) : List Byte :=
  leBytes 1 (deviceModeCode d.ctl.mode) ++ leBytes 1 (tbModeCode d.tb.mode) ++ leBytes 6 d.tb.now.toNat
    ++ leBytes 2 d.calendar.length ++ leBytes 2 d.ctl.head ++ leBytes 2 d.ctl.tail ++ leBytes 18 0

/-- The 16 bytes of a stream. -/
def snapshotStream (d : Device) (n : StreamId) : List Byte :=
  let s := d.stream n
  leBytes 1 (streamStateCode s.state) ++ leBytes 1 (waitReasonCode s.reason) ++ leBytes 2 s.head ++ leBytes 2 s.tail
    ++ leBytes 2 (heldCount d n) ++ leBytes 6 s.anchor.toNat ++ leBytes 1 s.prio ++ leBytes 1 0

/-- The level that a snapshot gives for a line (R78). -/
def snapshotLevel (x : Line) : Bool := levelTaken x

/-- The 4 bytes of a line. -/
def snapshotLine (d : Device) (l : LineId) : List Byte :=
  let x := d.line l
  leBytes 1 (lineModeCode x.mode) ++ leBytes 1 (ownerCode x.owner)
    ++ leBytes 1 ((snapshotLevel x).toNat + 2 * x.capture.isSome.toNat) ++ leBytes 1 (watchCount d l)

/-- The 2 bytes of a player. -/
def snapshotPlayer (d : Device) (p : PlayerId) : List Byte :=
  leBytes 1 (playerStateCode (d.player p).state) ++ leBytes 1 (ownerCode (d.player p).stream)

/-- The 16 bytes of a queue. -/
def snapshotQueue (d : Device) (q : CqId) : List Byte :=
  let c := d.queue q
  leBytes 1 (queueStateCode c.state) ++ leBytes 1 0 ++ leBytes 2 c.head ++ leBytes 2 c.tail ++ leBytes 2 0
    ++ leBytes 4 (min Config.max32 c.lost) ++ leBytes 4 0

/-- The 512 bytes of the snapshot (R163, 12.6). -/
def snapshotBytes (d : Device) : List Byte :=
  snapshotDevice d ++ allStreams.flatMap (snapshotStream d) ++ allLines.flatMap (snapshotLine d)
    ++ allPlayers.flatMap (snapshotPlayer d) ++ leBytes 8 0 ++ allQueues.flatMap (snapshotQueue d) ++ leBytes 144 0

/-- The snapshot address of a QUERY. -/
def queryAddress (r : Record) : Addr := r.extractLsb' 64 64

/-- The check of a QUERY (R162). -/
def queryOk (r : Record) : Bool :=
  reservedClear .query r && (queryAddress r).toNat % 32 == 0 && decide ((queryAddress r).toNat + 511 < 2 ^ 64)

/-- The four writes of a snapshot, in ascending order of address (R162). -/
def issueSnapshot (addr : Addr) (bytes : List Byte) (d : Device) : Device :=
  [0, 128, 256, 384].foldl (fun d o =>
    issueWrite .snapshot (addr + BitVec.ofNat 64 o) ((bytes.drop o).take 128) d) d

/-- A QUERY (R162): it becomes the record in progress, and stays in the control buffer until its consumption. -/
def takeQuery (r : Record) (d : Device) : Device :=
  if !queryOk r then refuseControl r .badField 0 d
  else
    (issueSnapshot (queryAddress r) (snapshotBytes d) d).modCtl (fun c =>
      { c with query := some { tag := StreamRecord.tag r, answered := 0, failures := 0 } })

end Sys2Proof.Machine
end

