-- ==== Sys2Proof/Machine/Flags.lean ====
section
/-! DEFINITION. What the host sees in the register window and on the interrupt pin (10.1, 10.2, 12.11): functions of the
state, since reads have no effect on any state but the TIME_HI latch (R164). -/

namespace Sys2Proof.Machine

/-- The interrupt pin INT_N is asserted (low): some bit of EVENT is set whose enable is set (R168). -/
def intAsserted (d : Device) : Bool := d.host.event &&& d.host.eventMask != 0

/-- The register CONTROL: ENABLE reads 1 in LOADING, ON and FAILED (R151); RESET reads 0 (R156). -/
def readControl (d : Device) : W32 :=
  match d.ctl.mode with
  | .loading | .on | .failed => 1
  | .off | .stopping => 0

/-- The register STATUS (R13, R151, R156, 12.11). -/
def readStatus (d : Device) : W32 :=
  BitVec.ofNat 32 (deviceModeCode d.ctl.mode + 16 * (quiet d).toNat + 256 * tbModeCode d.tb.mode
    + 4096 * d.tb.present.toNat)

/-- The register STREAM_ACTIVE: the bit of a stream is set while it is not IDLE (R117, R166). -/
def readStreamActive (d : Device) : W32 :=
  (allStreams.filter (fun n => (d.stream n).state != .idle)).foldl (fun w n => w ||| BitVec.ofNat 32 (2 ^ n.val)) 0

/-- The value of an aligned 32-bit read at a byte offset of the window (R164, R166, 12.11); 0 for a write-only or
unmapped offset, and 0 while RESET_N is low (R157). -/
def readRegister (d : Device) (offset : Nat) : W32 :=
  if !d.host.resetN then 0
  else match offset with
    | 0x00 => Config.idValue
    | 0x04 => readControl d
    | 0x08 => readStatus d
    | 0x0C => d.host.bootAddr.extractLsb' 0 32
    | 0x10 => d.host.bootAddr.extractLsb' 32 32
    | 0x20 => readStreamActive d
    | 0x24 => d.host.event
    | 0x28 => d.host.eventMask
    | 0x2C => d.tb.now.extractLsb' 0 32
    | 0x30 => d.tb.timeHi.zeroExtend 32
    | _ => 0

/-- What a read of `size` bytes at `offset` returns: 0 unless it is an aligned 32-bit access (R164). -/
def readWindow (d : Device) (offset size : Nat) : W32 :=
  if size = 4 ∧ offset % 4 = 0 then readRegister d offset else 0

end Sys2Proof.Machine
end

