-- ==== Sys2Proof/Machine/Registers.lean ====
section
/-! DEFINITION. What a write of each register of the window does (10.1, 10.2, 12.11), and the one read with an effect. -/

namespace Sys2Proof.Machine

/-- A tail write to the control ring (R158). -/
def writeControlTail (index : Nat) (d : Device) : Device :=
  let c := d.ctl
  if c.mode ≠ .on then cmdIgnored d
  else if c.size ≤ index then cmdIgnored d
  else if ringSpan index c.head c.size < controlFetched c then cmdIgnored d
  else
    controlFetchTest (d.modCtl (fun c =>
      { c with tail := index,
               request := if ringSpan index c.head c.size = controlFetched c then withdraw c.request else c.request }))

/-- A write of QUEUE_INDEX is handed to the owner of the ring it names (R165). -/
def writeQueueIndex (word : W32) (d : Device) : Device :=
  let sel := selectorOf word
  let index := (indexOf word).toNat
  if !queueIndexValid word then cmdIgnored d
  else if sel = 0 then writeControlTail index d
  else if sel ≤ 8 then writeTail (Fin.ofNat 8 (sel - 1)) index d
  else writeHead (Fin.ofNat 4 (sel - 16)) index d

/-- A write of EVENT (R167): the attention bits act on their queues (R148), the other bits are cleared. -/
def writeEvent (word : W32) (d : Device) : Device :=
  let d := clearEvent word d
  allQueues.foldl (fun d q => if word &&& attnBit q = 0 then d else clearAttention q d) d

/-- A write of EVENT_MASK (R168): the bits with no field stay 0. -/
def writeEventMask (word : W32) (d : Device) : Device := d.modHost (fun h => { h with eventMask := word &&& eventBits })

/-- A read of TIME_LO (R13). -/
def readTimeLo (d : Device) : Device :=
  let d' := d.modTb (fun t => { t with timeHi := t.now.extractLsb' 32 16 })
  d'.modHost (fun h => { h with readData := d.tb.now.extractLsb' 0 32 })

/-- A write of CONTROL (R151, R156): with RESET set it is a soft reset, and its ENABLE field is not acted on. -/
def writeControl (word : W32) (d : Device) : Device :=
  if word.getLsbD 1 then softReset d
  else if word.getLsbD 0 then enableDevice d
  else disableDevice d

/-- The streams whose bit is set in a word (R166). -/
def streamsOf (word : W32) : List StreamId := allStreams.filter (fun n => word.getLsbD n.val)

/-- Each START bit is a separate event at its own stream (R166), taken in ascending order, with the urgent events of one
before the next (log 12). -/
def writeStart (word : W32) (d : Device) : Device :=
  (streamsOf word).foldl (fun d n => startStream n (settle false allUrgencies d)) d

/-- Each STOP bit is a separate event at its own stream (R166), taken in ascending order, with the urgent events of one
before the next (log 12), but for the run of the read arbiter, as before any STOP (log 32). -/
def writeStop (word : W32) (d : Device) : Device :=
  (streamsOf word).foldl (fun d n => stopStream n (settle false allButGrant d)) d

/-- A write of CONTROL with RESET and ENABLE clear is a DISABLE (R151). -/
def writesDisable (offset : Nat) (word : W32) : Bool := offset == 0x04 && !word.getLsbD 1 && !word.getLsbD 0

/-- A write of BOOT_ADDR_LO or BOOT_ADDR_HI: before the grant of the bootstrap request it changes the address read
(R152). -/
def writesBootAddr (offset : Nat) : Bool := offset == 0x0C || offset == 0x10

/-- What comes before a register write: for a DISABLE, for STOPs and for a write of BOOT_ADDR, every kind but the run of
the read arbiter (log 32). -/
def urgenciesBeforeWrite (offset : Nat) (word : W32) : List Urgency :=
  if writesDisable offset word || offset == 0x1C || writesBootAddr offset then allButGrant else allUrgencies

/-- A write of an aligned 32-bit word to the window (10.1, R164): read-only and unmapped offsets change nothing. -/
def writeRegister (offset : Nat) (word : W32) (d : Device) : Device :=
  match offset with
  | 0x04 => writeControl word d
  | 0x0C => d.modHost (fun h => { h with bootAddr := h.bootAddr.extractLsb' 32 32 ++ word })
  | 0x10 => d.modHost (fun h => { h with bootAddr := word ++ h.bootAddr.extractLsb' 0 32 })
  | 0x14 => writeQueueIndex word d
  | 0x18 => writeStart word d
  | 0x1C => writeStop word d
  | 0x24 => writeEvent word d
  | 0x28 => writeEventMask word d
  | _ => d

/-- A register write of `size` bytes at `offset` (R164): ignored unless it is an aligned 32-bit access. -/
def writeWindow (offset size : Nat) (word : W32) (d : Device) : Device :=
  if size = 4 ∧ offset % 4 = 0 then writeRegister offset word d else d

end Sys2Proof.Machine
end

