-- ==== Sys2Proof/Machine/Oscillator.lean ====
section
/-! DEFINITION. How a command acts on the machine, and one period of the internal oscillator, in which every INPUT line is
sampled once and every count that runs on it rises by one (log 1). -/

namespace Sys2Proof.Machine

/-- A command acts on the part; while RESET_N is low the part is held at its values after pin reset (R157). -/
def act (f : Device → Device) (s : State) : Host.Outcome State Fault Refusal :=
  .next { s with dev := if s.dev.host.resetN then f s.dev else s.dev }

/-- An event of the part: first every urgent event that comes before it (log 3). -/
def event (f : Device → Device) (s : State) : Host.Outcome State Fault Refusal :=
  act (fun d => f (settle false allUrgencies d)) s

/-- An event that moves device time or the timebase state: an instant that entries are due at is taken first (log 3). -/
def timeEvent (f : Device → Device) (s : State) : Host.Outcome State Fault Refusal :=
  act (fun d => f (settle true allUrgencies d)) s

/-- An event that withdraws requests: as `event`, but the read arbiter does not run before it (log 32). -/
def withdrawalEvent (f : Device → Device) (s : State) : Host.Outcome State Fault Refusal :=
  act (fun d => f (settle false allButGrant d)) s

/-- The gap count rises by one and stays at 64 (R6). -/
def countGap (d : Device) : Device :=
  if d.tb.gap + 1 = Config.gapLimit then takeGap d
  else if d.tb.gap < Config.gapLimit then d.modTb (fun t => { t with gap := t.gap + 1 })
  else d

/-- The level at the pin of an INPUT line, as its last sample showed it: the filtered level, but while a change is in
progress the other one (R69, R76). The pin keeps it until a command brings another (log 37). -/
def Line.pinLevel (x : Line) : Bool := if x.agree = 0 then x.filtered else !x.filtered

/-- The samples that the present period has still to take (R75): of every INPUT line of which no sample has been taken in
it, in ascending order of the lines, at the level of its pin (log 7, log 37). -/
def samplesDue (d : Device) : List (LineId × Bool) :=
  (allLines.filter (fun l => (d.line l).mode == .input && !(d.line l).sampled)).map (fun l => (l, (d.line l).pinLevel))

/-- Every INPUT line has been sampled once in the period (R75), with the urgent events of one sample before the next. -/
def samplePins (d : Device) : Device :=
  (samplesDue d).foldl (fun d x => sampleLine x.1 x.2 false (settle false allUrgencies d)) d

/-- A period is over: the elapsed time of every read and write and every running coalescing timer rises by one (R169,
R171, R147), and no line has been sampled in the next period (R75). -/
def ageCounts (d : Device) : Device :=
  { d with
    lines := d.lines.map (fun x => { x with sampled := false }),
    reads := d.reads.map (fun r => { r with elapsed := r.elapsed + 1 }),
    writes := d.writes.map (fun w => { w with elapsed := w.elapsed + 1 }),
    queues := d.queues.map (fun c => { c with timer := c.timer.map (· + 1) }) }

/-- A count of periods has reached a number of microseconds (log 6). -/
def ranOut (elapsed timeout : Nat) : Bool := decide (Config.periodsPerMicrosecond * timeout ≤ elapsed)

/-- What runs out in a period: a read (R169), a write (R171) or a coalescing timer (R147). -/
inductive RunOut where
  | read (identity : Nat)
  | write (identity : Nat)
  | timer (q : CqId)
deriving DecidableEq, Repr

/-- The counts that have reached their limits: the reads in the order of their grants, the writes in the order of their
issue, then the timers of CQ0 to CQ3 (log 7). -/
def overdue (d : Device) : List RunOut :=
  (d.reads.filter (fun r => ranOut r.elapsed r.timeout)).map (fun r => .read r.identity) ++
    (d.writes.filter (fun w => ranOut w.elapsed w.timeout)).map (fun w => .write w.identity) ++
    (allQueues.filter (fun q => (d.queue q).timer.any (fun t => ranOut t (d.queue q).timeThreshold))).map .timer

/-- A count runs out. -/
def runOut (x : RunOut) (d : Device) : Device :=
  match x with
  | .read i => endRead i .timedOut d
  | .write i => timeOutWrite i d
  | .timer q => timerRunsOut q d

/-- One period of the internal oscillator: every INPUT line not yet sampled in it is sampled (R75); then every count that
runs on it rises, the gap count first, and those that have reached their limits run out, one after another, with the
urgent events of one before the next (log 7). -/
def oscillatorPeriod (d : Device) : Device :=
  let d := ageCounts (countGap (settle true allUrgencies (samplePins d)))
  (overdue d).foldl (fun d x => runOut x (settle false allUrgencies d)) d

end Sys2Proof.Machine
end

