-- ==== Sys2Proof/Machine/CalendarRows.lean ====
section
/-! DEFINITION. The expiries of calendar entries (chapter 2) and the service of the arbiters of free space and of players
(R23, R103). -/

namespace Sys2Proof.Machine

/-- The entry at the head of the calendar expires, when it is of the kind named and due now in RUNNING (R24). -/
def expire (k : EntryKind) (s : State) : Host.Outcome State Fault Refusal :=
  act (fun d =>
    let d := settle false beforeExpiry d
    if expiring d = some k then expireHead d else d) s

/-- SET_EXPIRY (R27). -/
def execSetExpiry (s : State) : Host.Outcome State Fault Refusal := expire .set s

/-- PULSE_EXPIRY (R28). -/
def execPulseExpiry (s : State) : Host.Outcome State Fault Refusal := expire .pulse s

/-- TRAIN_EXPIRY (R29). -/
def execTrainExpiry (s : State) : Host.Outcome State Fault Refusal := expire .train s

/-- MARKER_REACHED (R30). -/
def execMarkerReached (s : State) : Host.Outcome State Fault Refusal := expire .marker s

/-- PATTERN_STEP_EXPIRY (R31, R107, R109, R110). -/
def execPatternStepExpiry (s : State) : Host.Outcome State Fault Refusal := expire .patternStep s

/-- CAPTURE_END (R31, R88). -/
def execCaptureEnd (s : State) : Host.Outcome State Fault Refusal := expire .captureEnd s

/-- ARM_TIMEOUT (R31, R96). -/
def execArmTimeout (s : State) : Host.Outcome State Fault Refusal := expire .armDeadline s

/-- SPACE_GRANT (R23): the arbiter of free space serves the waiting streams that fit. -/
def execSpaceGrant (s : State) : Host.Outcome State Fault Refusal := act (settle false beforePlayer) s

/-- PLAYER_GRANT (R103): the arbiter of players, run after the arbiter of free space (R23). -/
def execPlayerGrant (s : State) : Host.Outcome State Fault Refusal :=
  act (settle false beforeQuery) s

end Sys2Proof.Machine
end

