-- ==== Sys2Proof/Machine/CompletionRows.lean ====
section
/-! DEFINITION. The commands of the completion unit and of the write path (chapter 8, 10.4). -/

namespace Sys2Proof.Machine

/-- COMPLETION_WRITE_ISSUE (R143, R145). -/
def execCompletionWriteIssue (s : State) : Host.Outcome State Fault Refusal :=
  act (fun d => serveWriter (settle false beforeWrite d)) s

/-- WRITE_SUCCESS (R140, R147). -/
def execWriteSuccess (identity : Nat) (s : State) : Host.Outcome State Fault Refusal :=
  event (answerWrite identity .completion true) s

/-- WRITE_BUS_ERROR (R146). -/
def execWriteBusError (identity : Nat) (s : State) : Host.Outcome State Fault Refusal :=
  event (answerWrite identity .completion false) s

/-- WRITE_TIMEOUT (R171): the elapsed time of the write has reached its timeout (log 4). -/
def execWriteTimeout (identity : Nat) (s : State) : Host.Outcome State Fault Refusal := event (timeOutWrite identity) s

/-- SNAPSHOT_WRITE_RESPONSE (R162). -/
def execSnapshotWriteResponse (identity : Nat) (success : Bool) (s : State) : Host.Outcome State Fault Refusal :=
  event (answerWrite identity .snapshot success) s

/-- COALESCING_TIMEOUT (R147): the timer of the queue has reached T (log 4). -/
def execCoalescingTimeout (q : CqId) (s : State) : Host.Outcome State Fault Refusal := event (timerRunsOut q) s

/-- HEAD_WRITE (R141). -/
def execHeadWrite (q : CqId) (index : BitVec 12) (s : State) : Host.Outcome State Fault Refusal :=
  event (writeHead q index.toNat) s

/-- ATTN_CLEAR (R148). -/
def execAttnClear (q : CqId) (s : State) : Host.Outcome State Fault Refusal := event (clearAttention q) s

end Sys2Proof.Machine
end

