-- ==== Sys2Proof/Machine/ControlRows.lean ====
section
/-! DEFINITION. The commands of the control ring processor (9.5, 9.6). -/

namespace Sys2Proof.Machine

/-- C_NOP (R161). -/
def execCNop (s : State) : Host.Outcome State Fault Refusal := event (whenTakes (some .cNop) takeNop) s

/-- TIME_CONFIG (R10). -/
def execTimeConfig (s : State) : Host.Outcome State Fault Refusal := event (whenTakes (some .timeConfig) takeTimeConfig) s

/-- TIME_SET (R11). -/
def execTimeSet (s : State) : Host.Outcome State Fault Refusal := timeEvent (whenTakes (some .timeSet) takeTimeSet) s

/-- TIME_STEP (R12). -/
def execTimeStep (s : State) : Host.Outcome State Fault Refusal := timeEvent (whenTakes (some .timeStep) takeTimeStep) s

/-- TIME_RUN (R4). -/
def execTimeRun (s : State) : Host.Outcome State Fault Refusal := event (whenTakes (some .timeRun) takeTimeRun) s

/-- TIME_HOLD (R5). -/
def execTimeHold (s : State) : Host.Outcome State Fault Refusal := timeEvent (whenTakes (some .timeHold) takeTimeHold) s

/-- CONFIGURE_STREAM (R118). -/
def execConfigureStream (s : State) : Host.Outcome State Fault Refusal :=
  event (whenTakes (some .configureStream) takeConfigureStream) s

/-- CONFIGURE_CQ (R138). -/
def execConfigureCq (s : State) : Host.Outcome State Fault Refusal :=
  event (whenTakes (some .configureCq) takeConfigureCq) s

/-- CONFIGURE_LINE (R67 to R69). -/
def execConfigureLine (level : Bool) (s : State) : Host.Outcome State Fault Refusal :=
  event (whenTakes (some .configureLine) (takeConfigureLine level)) s

/-- SET_THRESHOLD (R119). -/
def execSetThreshold (s : State) : Host.Outcome State Fault Refusal :=
  event (whenTakes (some .setThreshold) takeSetThreshold) s

/-- QUERY (R162). -/
def execQuery (s : State) : Host.Outcome State Fault Refusal := event (whenTakes (some .query) takeQuery) s

/-- CONTROL_BAD_KIND (R160). -/
def execControlBadKind (s : State) : Host.Outcome State Fault Refusal := event (whenTakes none takeBadKind) s

/-- FAILED_PLACE (R160). -/
def execFailedPlace (s : State) : Host.Outcome State Fault Refusal := event takeFailedPlace s

/-- QUERY_CONSUMED (R162). -/
def execQueryConsumed (s : State) : Host.Outcome State Fault Refusal :=
  act (fun d =>
    let d := settle false beforeQuery d
    if queryAnswered d then consumeQuery d else d) s

/-- CONTROL_RING_TAIL_WRITE (R158). -/
def execControlRingTailWrite (index : BitVec 12) (s : State) : Host.Outcome State Fault Refusal :=
  event (writeControlTail index.toNat) s

end Sys2Proof.Machine
end

