-- ==== Sys2Proof/Machine/HostRows.lean ====
section
/-! DEFINITION. The commands of the host port and of the device state machine (chapters 9 and 10). -/

namespace Sys2Proof.Machine

/-- READ_GRANT (R170): one grant of the read arbiter. -/
def execReadGrant (s : State) : Host.Outcome State Fault Refusal :=
  act (fun d => grantRead (settle false beforeGrant d)) s

/-- READ_DATA_RETURN (R169). -/
def execReadDataReturn (identity : Nat) (data : List Byte) (s : State) : Host.Outcome State Fault Refusal :=
  event (endRead identity (.data data)) s

/-- READ_BUS_ERROR (R169). -/
def execReadBusError (identity : Nat) (s : State) : Host.Outcome State Fault Refusal :=
  event (endRead identity .busError) s

/-- READ_TIMEOUT (R169): the elapsed time of the read has reached its timeout (log 4). -/
def execReadTimeout (identity : Nat) (s : State) : Host.Outcome State Fault Refusal :=
  event (endRead identity .timedOut) s

/-- TEARDOWN_COMPLETE (R155). -/
def execTeardownComplete (s : State) : Host.Outcome State Fault Refusal :=
  act (fun d =>
    let d := settle false beforeTeardown d
    if teardownOver d then passToOff d else d) s

/-- ENABLE (R151). -/
def execEnable (s : State) : Host.Outcome State Fault Refusal := event enableDevice s

/-- DISABLE (R154, R155): it moves the timebase state, so that an instant due now is taken first, and a pending request may
meet it (log 3, log 32). -/
def execDisable (s : State) : Host.Outcome State Fault Refusal :=
  act (fun d => disableDevice (settle true allButGrant d)) s

/-- SOFT_RESET (R156): a read or write that has been issued by then is orphaned. -/
def execSoftReset (s : State) : Host.Outcome State Fault Refusal := event softReset s

/-- PIN_RESET (R157): taken whatever the level of RESET_N. -/
def execPinReset (s : State) : Host.Outcome State Fault Refusal := .next { s with dev := pinReset s.dev }

/-- RESET_N_RISE (R14, R157): the part begins from its values after pin reset; with RESET_N high there is no rise. -/
def execResetNRise (s : State) : Host.Outcome State Fault Refusal :=
  .next { s with dev := s.dev.modHost (fun h => { h with resetN := true }) }

/-- INVALID_SELECTOR (R165). -/
def execInvalidSelector (word : W32) (s : State) : Host.Outcome State Fault Refusal :=
  event (fun d => if queueIndexValid word then d else cmdIgnored d) s

/-- EVENT_CLEAR (R167, R148). -/
def execEventClear (word : W32) (s : State) : Host.Outcome State Fault Refusal := event (writeEvent word) s

/-- EVENT_MASK_WRITE (R168), taken before the urgent events that are pending, none of which it bears on (log 36). -/
def execEventMaskWrite (word : W32) (s : State) : Host.Outcome State Fault Refusal := act (writeEventMask word) s

/-- REGISTER_WRITE (R164, R166): any write of the window, after what comes before the command that the write is. -/
def execRegisterWrite (offset size : Nat) (word : W32) (s : State) : Host.Outcome State Fault Refusal :=
  act (fun d => writeWindow offset size word
    (settle (writesDisable offset word) (urgenciesBeforeWrite offset word) d)) s

end Sys2Proof.Machine
end

