-- ==== Sys2Proof/Machine/LineRows.lean ====
section
/-! DEFINITION. The commands of the input lines and of the arm waits (4.7, 4.8, chapter 5). -/

namespace Sys2Proof.Machine

/-- The first edge handed to the stream's arm wait is taken by it (R95). -/
def fireHanded (n : StreamId) (d : Device) : Device :=
  match d.edges.find? (fun h => h.stream == n) with
  | none => d
  | some h => fireArm h { d with edges := d.edges.erase h }

/-- EDGE_EVENT (R77): the line's agreement count has reached F + 1 (log 4). -/
def execEdgeEvent (l : LineId) (armsFirst : Bool) (s : State) : Host.Outcome State Fault Refusal :=
  event (fun d => if (d.line l).mode = .input then acceptEdge l armsFirst d else d) s

/-- INPUT_SAMPLE (R76). -/
def execInputSample (l : LineId) (level armsFirst : Bool) (s : State) : Host.Outcome State Fault Refusal :=
  event (sampleLine l level armsFirst) s

/-- ARM_FIRED (R95). -/
def execArmFired (n : StreamId) (s : State) : Host.Outcome State Fault Refusal := act (fireHanded n) s

end Sys2Proof.Machine
end

