-- ==== Sys2Proof/Machine/StreamRows.lean ====
section
/-! DEFINITION. The commands of the streams: admissions (chapter 3, 4.4, 4.5, 5.1, 5.5, 6.2), the ends of waits, tail
writes, START, STOP and the passage to IDLE (chapter 7). -/

namespace Sys2Proof.Machine

/-- The stream admits the record at its head, when it is of the kind named (R46, R125). -/
def admission (n : StreamId) (k : Option StreamKind) (f : Device → Device) (s : State) :
    Host.Outcome State Fault Refusal :=
  event (whenAdmits n k f) s

/-- NOP (R53). -/
def execNop (n : StreamId) (s : State) : Host.Outcome State Fault Refusal := admission n (some .nop) (admitNop n) s

/-- SET (R54). -/
def execSet (n : StreamId) (s : State) : Host.Outcome State Fault Refusal :=
  admission n (some .set) (admitAction .set n false) s

/-- PULSE (R55). -/
def execPulse (n : StreamId) (s : State) : Host.Outcome State Fault Refusal :=
  admission n (some .pulse) (admitAction .pulse n false) s

/-- TRAIN (R56). -/
def execTrain (n : StreamId) (s : State) : Host.Outcome State Fault Refusal :=
  admission n (some .train) (admitAction .train n false) s

/-- MARKER (R57). -/
def execMarker (n : StreamId) (s : State) : Host.Outcome State Fault Refusal :=
  admission n (some .marker) (admitAction .marker n false) s

/-- ANCHOR (R58). -/
def execAnchor (n : StreamId) (s : State) : Host.Outcome State Fault Refusal :=
  admission n (some .anchor) (admitAnchor n) s

/-- WAIT (R59). -/
def execWait (n : StreamId) (s : State) : Host.Outcome State Fault Refusal := admission n (some .wait) (admitWait n) s

/-- CANCEL (R61 to R64, R113); a pending request may meet it (log 32). -/
def execCancel (n : StreamId) (s : State) : Host.Outcome State Fault Refusal :=
  withdrawalEvent (whenAdmits n (some .cancel) (admitCancel n)) s

/-- CLAIM (R70). -/
def execClaim (n : StreamId) (s : State) : Host.Outcome State Fault Refusal :=
  admission n (some .claim) (admitClaim n) s

/-- RELEASE (R71, R72). -/
def execRelease (n : StreamId) (s : State) : Host.Outcome State Fault Refusal :=
  admission n (some .release) (admitRelease n) s

/-- CAPTURE (R83, R84). -/
def execCapture (n : StreamId) (s : State) : Host.Outcome State Fault Refusal :=
  admission n (some .capture) (admitCapture n false) s

/-- ARM (R93, R94). -/
def execArm (n : StreamId) (s : State) : Host.Outcome State Fault Refusal :=
  admission n (some .arm) (admitArm n false) s

/-- PATTERN (R101, R104). -/
def execPattern (n : StreamId) (s : State) : Host.Outcome State Fault Refusal :=
  admission n (some .pattern) (admitPattern n false) s

/-- STREAM_BAD_KIND (R46). -/
def execStreamBadKind (n : StreamId) (s : State) : Host.Outcome State Fault Refusal :=
  admission n none (admitBadKind n) s

/-- The stream waits for the reason. -/
def waitsFor (n : StreamId) (w : WaitReason) (d : Device) : Bool :=
  (d.stream n).state == .waiting && (d.stream n).reason == w

/-- The reports made are tested, up to the one that ends the stream's wait (R21). -/
def endWait (n : StreamId) (w : WaitReason) (d : Device) : Device :=
  if waitsFor n w d then testReports (fun d => !waitsFor n w d) d.reports d else d

/-- BARRIER_PASS (R60). -/
def execBarrierPass (n : StreamId) (s : State) : Host.Outcome State Fault Refusal :=
  act (fun d => endWait n .barrier (settle false [.edge] d)) s

/-- RELEASE_COMPLETE (R73). -/
def execReleaseComplete (n : StreamId) (s : State) : Host.Outcome State Fault Refusal :=
  act (fun d => endWait n .release (settle false [.edge] d)) s

/-- STREAM_STOPPED (R133). -/
def execStreamStopped (n : StreamId) (s : State) : Host.Outcome State Fault Refusal :=
  act (fun d =>
    let d := settle false beforeStopped d
    if stopOver d n then becomeIdle n d else d) s

/-- TAIL_WRITE (R120). -/
def execTailWrite (n : StreamId) (index : BitVec 12) (s : State) : Host.Outcome State Fault Refusal :=
  event (writeTail n index.toNat) s

/-- START (R131). -/
def execStart (n : StreamId) (s : State) : Host.Outcome State Fault Refusal := event (startStream n) s

/-- STOP (R132, R134); a pending request may meet it (log 32). -/
def execStop (n : StreamId) (s : State) : Host.Outcome State Fault Refusal := withdrawalEvent (stopStream n) s

end Sys2Proof.Machine
end

