-- ==== Sys2Proof/Machine/TimeRows.lean ====
section
/-! DEFINITION. The commands of the timebase, of the two clocks and of device time's register (chapter 1). -/

namespace Sys2Proof.Machine

/-- TICK (R1): the P-th rising edge of the reference clock has come (log 4); it also returns the gap count to 0 (R6). -/
def execTick (s : State) : Host.Outcome State Fault Refusal :=
  timeEvent (fun d => if d.isRunning then advanceTime (d.modTb (fun t => { t with gap := 0 })) else d) s

/-- REF_GAP (R6, R8): 64 periods have passed without an edge (log 4). -/
def execRefGap (s : State) : Host.Outcome State Fault Refusal := timeEvent takeGap s

/-- REF_QUALIFIED (R7, R9): the 4096th edge without a gap has come, with the flag clear (log 4). -/
def execRefQualified (s : State) : Host.Outcome State Fault Refusal :=
  event (fun d => if d.tb.present then d else qualify (d.modTb (fun t => { t with gap := 0 }))) s

/-- REFERENCE_EDGE (R1, R6, R7). -/
def execReferenceEdge (s : State) : Host.Outcome State Fault Refusal := timeEvent referenceEdge s

/-- TIME_LO_READ (R13); while RESET_N is low a register read returns 0 (R157). It is taken before the urgent events that are
pending, as the functions that read the other registers are (DESIGN CHOICE, log 36). -/
def execTimeLoRead (s : State) : Host.Outcome State Fault Refusal :=
  .next { s with dev := if s.dev.host.resetN then readTimeLo s.dev
                        else s.dev.modHost (fun h => { h with readData := 0 }) }

end Sys2Proof.Machine
end

