-- ==== Sys2Proof/Machine/Dispatch.lean ====
section
/-! DEFINITION. The meaning of every command, in the order of the table. -/

namespace Sys2Proof.Machine

/-- The effect of a command on everything but the queue of waiting commands. -/
def exec (i : Instr) (s : State) : Host.Outcome State Fault Refusal :=
  match i with
  | .tick => Sys2Proof.Machine.execTick s
  | .refGap => Sys2Proof.Machine.execRefGap s
  | .refQualified => Sys2Proof.Machine.execRefQualified s
  | .setExpiry => Sys2Proof.Machine.execSetExpiry s
  | .pulseExpiry => Sys2Proof.Machine.execPulseExpiry s
  | .trainExpiry => Sys2Proof.Machine.execTrainExpiry s
  | .markerReached => Sys2Proof.Machine.execMarkerReached s
  | .patternStepExpiry => Sys2Proof.Machine.execPatternStepExpiry s
  | .captureEnd => Sys2Proof.Machine.execCaptureEnd s
  | .armTimeout => Sys2Proof.Machine.execArmTimeout s
  | .edgeEvent line armsFirst => Sys2Proof.Machine.execEdgeEvent line armsFirst s
  | .armFired stream => Sys2Proof.Machine.execArmFired stream s
  | .coalescingTimeout queue => Sys2Proof.Machine.execCoalescingTimeout queue s
  | .readGrant => Sys2Proof.Machine.execReadGrant s
  | .readDataReturn identity data => Sys2Proof.Machine.execReadDataReturn identity data s
  | .readBusError identity => Sys2Proof.Machine.execReadBusError identity s
  | .readTimeout identity => Sys2Proof.Machine.execReadTimeout identity s
  | .completionWriteIssue => Sys2Proof.Machine.execCompletionWriteIssue s
  | .writeSuccess identity => Sys2Proof.Machine.execWriteSuccess identity s
  | .writeBusError identity => Sys2Proof.Machine.execWriteBusError identity s
  | .writeTimeout identity => Sys2Proof.Machine.execWriteTimeout identity s
  | .queryConsumed => Sys2Proof.Machine.execQueryConsumed s
  | .nop stream => Sys2Proof.Machine.execNop stream s
  | .set stream => Sys2Proof.Machine.execSet stream s
  | .pulse stream => Sys2Proof.Machine.execPulse stream s
  | .train stream => Sys2Proof.Machine.execTrain stream s
  | .marker stream => Sys2Proof.Machine.execMarker stream s
  | .anchor stream => Sys2Proof.Machine.execAnchor stream s
  | .wait stream => Sys2Proof.Machine.execWait stream s
  | .barrierPass stream => Sys2Proof.Machine.execBarrierPass stream s
  | .cancel stream => Sys2Proof.Machine.execCancel stream s
  | .claim stream => Sys2Proof.Machine.execClaim stream s
  | .release stream => Sys2Proof.Machine.execRelease stream s
  | .releaseComplete stream => Sys2Proof.Machine.execReleaseComplete stream s
  | .capture stream => Sys2Proof.Machine.execCapture stream s
  | .arm stream => Sys2Proof.Machine.execArm stream s
  | .pattern stream => Sys2Proof.Machine.execPattern stream s
  | .streamBadKind stream => Sys2Proof.Machine.execStreamBadKind stream s
  | .spaceGrant => Sys2Proof.Machine.execSpaceGrant s
  | .playerGrant => Sys2Proof.Machine.execPlayerGrant s
  | .streamStopped stream => Sys2Proof.Machine.execStreamStopped stream s
  | .teardownComplete => Sys2Proof.Machine.execTeardownComplete s
  | .cNop => Sys2Proof.Machine.execCNop s
  | .timeConfig => Sys2Proof.Machine.execTimeConfig s
  | .timeSet => Sys2Proof.Machine.execTimeSet s
  | .timeStep => Sys2Proof.Machine.execTimeStep s
  | .timeRun => Sys2Proof.Machine.execTimeRun s
  | .timeHold => Sys2Proof.Machine.execTimeHold s
  | .configureStream => Sys2Proof.Machine.execConfigureStream s
  | .configureCq => Sys2Proof.Machine.execConfigureCq s
  | .configureLine level => Sys2Proof.Machine.execConfigureLine level s
  | .setThreshold => Sys2Proof.Machine.execSetThreshold s
  | .query => Sys2Proof.Machine.execQuery s
  | .controlBadKind => Sys2Proof.Machine.execControlBadKind s
  | .failedPlace => Sys2Proof.Machine.execFailedPlace s
  | .enable => Sys2Proof.Machine.execEnable s
  | .disable => Sys2Proof.Machine.execDisable s
  | .softReset => Sys2Proof.Machine.execSoftReset s
  | .pinReset => Sys2Proof.Machine.execPinReset s
  | .resetNRise => Sys2Proof.Machine.execResetNRise s
  | .controlRingTailWrite index => Sys2Proof.Machine.execControlRingTailWrite index s
  | .tailWrite stream index => Sys2Proof.Machine.execTailWrite stream index s
  | .headWrite queue index => Sys2Proof.Machine.execHeadWrite queue index s
  | .invalidSelector word => Sys2Proof.Machine.execInvalidSelector word s
  | .start stream => Sys2Proof.Machine.execStart stream s
  | .stop stream => Sys2Proof.Machine.execStop stream s
  | .attnClear queue => Sys2Proof.Machine.execAttnClear queue s
  | .eventClear word => Sys2Proof.Machine.execEventClear word s
  | .eventMaskWrite word => Sys2Proof.Machine.execEventMaskWrite word s
  | .timeLoRead => Sys2Proof.Machine.execTimeLoRead s
  | .registerWrite offset size word => Sys2Proof.Machine.execRegisterWrite offset size word s
  | .referenceEdge => Sys2Proof.Machine.execReferenceEdge s
  | .inputSample line level armsFirst => Sys2Proof.Machine.execInputSample line level armsFirst s
  | .snapshotWriteResponse identity success => Sys2Proof.Machine.execSnapshotWriteResponse identity success s

end Sys2Proof.Machine
end

