-- ==== Sys2Proof/Machine/Step.lean ====
section
/-! DEFINITION. One step: the command at the front of the queue, or one period of the internal oscillator (log 1). -/

namespace Sys2Proof.Machine

/-- One step. On an empty queue one period of the internal oscillator passes (log 1). -/
def step (s : State) : Host.Outcome State Fault Refusal :=
  match s.pending with
  | [] => act oscillatorPeriod s
  | c :: rest => exec c { s with pending := rest }

/-- `s` with a command at the front of its queue. -/
def State.withCommand (s : State) : Option Instr → State
  | none => s
  | some c => { s with pending := c :: s.pending }

/-- `s` with the command that a word spells at the front of its queue; the table gives no row bits, so no word spells
one. -/
def State.withFetchWord (s : State) (nbits w : Nat) : State := s.withCommand (decodeTableWord nbits w)

end Sys2Proof.Machine
end

