-- ==== Sys2Proof/Safety.lean ====
section
/-! DEFINITION. The terms of the claims: when a command is taken as it stands, what the taking of a completion and the
consumption of a record do, and the invariants of the part. -/

namespace Sys2Proof.Machine

/-! ## When a command is taken as it stands -/

/-- RESET_N is high and no urgent event of the kinds listed is pending (log 3). -/
def SettledFor (us : List Urgency) (s : State) : Prop := s.dev.host.resetN = true ∧ calm false us s.dev = true

/-- RESET_N is high and no urgent event at all is pending. -/
def Settled (s : State) : Prop := SettledFor allUrgencies s

/-- As `SettledFor`, and no entry is due now in RUNNING either, so that device time may move. -/
def SettledNowFor (us : List Urgency) (s : State) : Prop := s.dev.host.resetN = true ∧ calm true us s.dev = true

/-- As `Settled`, and no entry is due now in RUNNING either, so that device time may move. -/
def SettledNow (s : State) : Prop := SettledNowFor allUrgencies s

/-- Every field of a stream record is in the range that its kind gives it (12.1): the flags accepted (R42), the time
reference and the time, the lines, levels, window, short parameter and parameters A and B (R47, R70, R71, R83, R93, R101),
and every reserved part 0 (R174). -/
def FieldsInRange (k : StreamKind) (r : Record) : Prop :=
  let flags (bits : List Nat) := ∀ b < 8, (fieldAt r 1 1).testBit b = true → b ∈ bits
  let reference (most : Nat) := fieldAt r 4 1 ≤ most
  let untimed := fieldAt r 4 1 = 0 ∧ fieldAt r 8 6 = 0
  let zero (o n : Nat) := fieldAt r o n = 0
  let noEnd := (fieldAt r 1 1).testBit 4 = true
  let short := fieldAt r 14 2
  let lines := fieldAt r 16 4
  let lineNumber := (allLines.filter (fun l => lines.testBit l.val)).length
  let a := fieldAt r 24 4
  let b := fieldAt r 28 4
  match k with
  | .nop => flags [0] ∧ untimed ∧ zero 5 3 ∧ zero 14 18
  | .set => flags [0, 1] ∧ reference 2 ∧ zero 5 1 ∧ zero 14 2 ∧ lines ≠ 0 ∧ zero 24 8
  | .pulse => flags [0, 1] ∧ reference 2 ∧ zero 5 1 ∧ zero 14 2 ∧ lines ≠ 0 ∧ 1 ≤ a ∧ zero 28 4
  | .train => flags [0, 1] ∧ reference 2 ∧ zero 5 1 ∧ lines ≠ 0 ∧ 2 ≤ b ∧ 1 ≤ a ∧ a ≤ b - 1
  | .marker => flags [0, 1] ∧ reference 2 ∧ zero 5 1 ∧ zero 14 18
  | .anchor => flags [0] ∧ reference 1 ∧ zero 5 3 ∧ zero 14 18
  | .wait => flags [0] ∧ untimed ∧ zero 5 3 ∧ zero 16 16
  | .cancel => flags [0, 2] ∧ untimed ∧ zero 5 3 ∧ zero 16 16
  | .claim | .release => flags [0] ∧ untimed ∧ zero 5 3 ∧ zero 14 2 ∧ lines ≠ 0 ∧ zero 20 12
  | .capture => flags [0, 4] ∧ (noEnd → untimed) ∧ (¬noEnd → reference 2) ∧ zero 5 3 ∧ 1 ≤ short ∧ short ≤ 3 ∧
      lineNumber = 1 ∧ zero 20 4 ∧ zero 28 4
  | .arm => flags [0, 3, 4] ∧ (noEnd → untimed ∧ (fieldAt r 1 1).testBit 3 = false) ∧ (¬noEnd → reference 1) ∧
      zero 5 3 ∧ 1 ≤ short ∧ short ≤ 3 ∧ lineNumber = 1 ∧ zero 20 12
  | .pattern => flags [0, 1] ∧ reference 2 ∧ 1 ≤ fieldAt r 5 1 ∧ 1 ≤ short ∧ 1 ≤ lineNumber ∧ lineNumber ≤ 8 ∧
      fieldAt r 24 8 % 8 = 0 ∧ fieldAt r 24 8 + 8 * short - 1 ≤ 2 ^ 64 - 1

/-- A command of the stream's at its head: the stream admits now, and the record at the head of its prefetch buffer is
`r`, of the kind `k`, with every field in range (R46, stages 1 and 2); no urgent event of the kinds listed is pending. -/
def AdmitsFor (us : List Urgency) (s : State) (n : StreamId) (k : StreamKind) (r : Record) : Prop :=
  SettledFor us s ∧ (s.dev.stream n).state = .running ∧ (s.dev.stream n).buffer.head? = some r ∧
    streamKindOf (StreamRecord.kind r) = some k ∧ fieldsOk k r = true

/-- As `AdmitsFor`, with no urgent event at all pending. -/
def Admits (s : State) (n : StreamId) (k : StreamKind) (r : Record) : Prop := AdmitsFor allUrgencies s n k r

/-- The control ring processor takes the record `r`, of the kind `k`, with no reserved part set (R160). -/
def Takes (s : State) (k : ControlKind) (r : Record) : Prop :=
  s.dev.ctl.mode = .on ∧ s.dev.ctl.query = none ∧ s.dev.ctl.buffer.head? = some (.record r) ∧
    controlKindOf (StreamRecord.kind r) = some k ∧ reservedClear k r = true

/-- The command of a stream kind. -/
def streamCommand : StreamKind → StreamId → Instr
  | .nop => .nop | .set => .set | .pulse => .pulse | .train => .train | .marker => .marker | .pattern => .pattern
  | .capture => .capture | .arm => .arm | .anchor => .anchor | .wait => .wait | .claim => .claim
  | .release => .release | .cancel => .cancel

/-- The command of a control kind; `level` is the sample of a CONFIGURE_LINE. -/
def controlCommand (level : Bool) : ControlKind → Instr
  | .cNop => .cNop | .timeConfig => .timeConfig | .timeSet => .timeSet | .timeStep => .timeStep
  | .timeRun => .timeRun | .timeHold => .timeHold | .configureStream => .configureStream
  | .configureCq => .configureCq | .configureLine => .configureLine level | .setThreshold => .setThreshold
  | .query => .query

/-! ## Completions -/

/-- `d'` is `d` after the completion `c` has been posted to queue `q`, as far as holding buffer and queues go: it is in
the holding buffer behind every record there, with the lost count as its prefix when nonzero, or it is counted (R142,
R144). -/
def Posted (q : CqId) (c : Completion) (d d' : Device) : Prop :=
  if d.holding.length < 64 ∧ (d.queue q).state = .active then
    d'.holding = d.holding ++ [{ queue := q, completion := c,
                                 overflow := if (d.queue q).lost = 0 then none
                                             else some (BitVec.ofNat 32 (d.queue q).lost, d.tb.now) }] ∧
    ∀ k, d'.queue k = if k = q then { d.queue q with lost := 0 } else d.queue k
  else
    d'.holding = d.holding ∧
    ∀ k, d'.queue k = if k = q then { d.queue q with
      lost := min 0xFFFFFFFF ((d.queue q).lost + if c.status = .captureEdge then 0 else 1) } else d.queue k

/-- The completion is posted when `b` holds, and nothing is posted otherwise. -/
def PostedIf (b : Bool) (q : CqId) (c : Completion) (d d' : Device) : Prop :=
  if b then Posted q c d d' else d'.holding = d.holding ∧ d'.queues = d.queues

/-- The completions `cs` have been posted, one after another, as far as holding buffer and queues go. -/
def PostedAll (cs : List (CqId × Completion)) (d d' : Device) : Prop :=
  d'.holding = (cs.foldl (fun d x => post x.1 x.2 d) d).holding ∧
    d'.queues = (cs.foldl (fun d x => post x.1 x.2 d) d).queues

/-- A completion with flags clear. -/
def plainCompletion (source : Source) (kind : Byte) (status : Status) (tag : Tag) (time : Time) (line head : Nat)
    (x1 x2 : W32) : Completion :=
  { source := source, kind := kind, status := status, tag := tag, time := time, line := line, head := head,
    rising := false, frozen := false, x1 := x1, x2 := x2 }

/-! ## Records consumed -/

/-- The context of a stream after its fetch test: it asks for a read when it is RUNNING or WAITING, at or above the fetch
threshold, without a request, with a place free in its buffer and unfetched records in its ring (R121). -/
def Stream.refetched (threshold : Nat) (x : Stream) : Stream :=
  if (x.state = .running ∨ x.state = .waiting) ∧ threshold ≤ x.prio ∧ x.request = .idle ∧ x.buffer.length < 4 ∧
      fetchedCount x < ringSpan x.tail x.head x.size then { x with request := .pending }
  else x

/-- The context of a stream after the consumption of its head record: the head advances by one modulo the ring size, the
record leaves the buffer, and the fetch test is made (R51, R121). -/
def Stream.consumed (threshold : Nat) (x : Stream) : Stream :=
  ({ x with buffer := x.buffer.tail, head := (x.head + 1) % x.size } : Stream).refetched threshold

/-- The control ring processor after the consumption of the entry at the head of its buffer (R159, R160). -/
def Control.consumed (c : Control) : Control :=
  let y := { c with buffer := c.buffer.tail, head := (c.head + 1) % c.size }
  if y.mode = .on ∧ y.request = .idle ∧ y.buffer.length < 4 ∧ controlFetched y < ringSpan y.tail y.head y.size then
    { y with request := .pending }
  else y

/-- A halted stream (R127): its buffer is discarded, a pending request withdrawn, a read in flight marked. -/
def Stream.afterHalt (x : Stream) : Stream :=
  { x with state := .halted, reason := .noWait, buffer := [], armWait := none, discard := inFlight x.request,
           request := withdraw x.request }

/-- Every stream but `n` is as before, and `n` has the context `x`. -/
def OnlyStream (n : StreamId) (x : Stream) (d d' : Device) : Prop :=
  ∀ m, d'.stream m = if m = n then x else d.stream m

/-- Every line is as before but those of the mask in OUTPUT mode, which take their bits of the level set (R74). -/
def Driven (m levels : Mask) (d d' : Device) : Prop :=
  ∀ l, d'.line l =
    if inMask m l = true ∧ (d.line l).mode = .output then { d.line l with out := inMask levels l } else d.line l

/-! ## Calendar entries -/

/-- The entry `e` at the head of the calendar is due now in RUNNING, and what comes before its expiry has been taken. It
may be the first, a later or the last entry of its instant. -/
def AtHead (s : State) (e : Entry) (rest : List Entry) : Prop :=
  SettledFor beforeExpiry s ∧ s.dev.tb.mode = .running ∧ s.dev.calendar = e :: rest ∧ e.due = s.dev.tb.now

/-- An expiry that drives `levels` on the lines of `m` leaves `d'`. While an entry is due now at the head the instant goes
on and its drives stand by, the last level driven on a line standing; at its last expiry they reach the lines together
(R24, R25; the fields in which they stand by are the model's, log 16). -/
def InstantGoesOn (m levels : Mask) (d d' : Device) : Prop :=
  let mask := d.stagedMask ||| m
  let last := (d.stagedLevels &&& ~~~m) ||| (levels &&& m)
  ((∃ y, d'.calendar.head? = some y ∧ y.due = d.tb.now) →
    d'.instantOpen = true ∧ d'.stagedMask = mask ∧ d'.stagedLevels = last ∧ d'.lines = d.lines) ∧
  ((∀ y, d'.calendar.head? = some y → y.due ≠ d.tb.now) →
    d'.instantOpen = false ∧ d'.stagedMask = 0 ∧ d'.stagedLevels = 0 ∧ Driven mask last d d')

/-- The device `d` with the fields that an open instant uses as in `d'`. -/
def WithInstant (d d' : Device) : Device :=
  { d with instantOpen := d'.instantOpen, stagedMask := d'.stagedMask, stagedLevels := d'.stagedLevels,
           lines := d'.lines }

/-- The grid point of a train `k` places after the next one (R29). -/
def gridPointAt (g : TrainPart) (k : Nat) : Time :=
  g.origin + BitVec.ofNat 48 ((g.driven + g.missed + k) * g.period)

/-- The next grid point of a train lies `back` ticks behind `now`, or less than 2^32 ticks ahead when `back` is 0, and `m`
grid points from it on lie behind now (R18, R29, R37; for a point beyond the horizon DEDUCED, log 27). -/
def PointsBehind (now : Time) (g : TrainPart) (back m : Nat) : Prop :=
  1 ≤ g.period ∧ back ≤ 2 ^ 48 - 2 ^ 32 ∧ back ≤ m * g.period ∧ m * g.period < back + g.period ∧
    ∃ ahead : Nat, (back = 0 ∨ ahead = 0) ∧ ahead < 2 ^ 32 ∧
      gridPointAt g 0 + BitVec.ofNat 48 back = now + BitVec.ofNat 48 ahead

/-- What a forward step to the device time `now` makes of one entry that it passes over, which lay behind `now` by `p`; the
entry has been taken out of the calendar of `d` (the table of R35). A SET, a MARKER, a PULSE in phase START and the entry
of a PRIMING pattern are judged (R36, R38); a train in phase START goes on at its next grid point now or ahead, or is done
(R37); a PLAYING pattern ends with its rest levels and TIME_STEPPED (R38, R114); every other entry is re-timed. An entry
without the part that its kind carries (R15) is not spoken of. `late` says that it counts as resolved late, not as
skipped. That a train whose next grid point lies beyond the horizon goes on or is done like any other is DEDUCED (log
27). An entry judged within its window has its late mark clear (R32, R36, R38; for a SET and a MARKER DEDUCED, log 28),
but a PULSE keeps one from before (R33). -/
def PassedOver (now : Time) (p : Nat) (e : Entry) (d d' : Device) (late : Bool) : Prop :=
  let say (status : Status) (tag : Tag) (time : Time) (line : Nat) (x1 x2 : W32) :=
    ((d.stream e.stream).target,
      plainCompletion (.stream e.stream) (entryKindCode e.kind) status tag time line (d.stream e.stream).head x1 x2)
  let stays (e' : Entry) := late = true ∧ d' = { d with calendar := insertEntry now e' d.calendar }
  let leaves (counted : Bool) (ended : Option PlayerId) (driven levels : Mask) (said : List (CqId × Completion)) :=
    late = counted ∧
    d' = { d with reports := d.reports ++ [reportOf e], lines := d'.lines, players := d'.players, holding := d'.holding,
                  queues := d'.queues } ∧
    (∀ q, d'.player q = if ended = some q then endedPlayer (d.player q) else d.player q) ∧ Driven driven levels d d' ∧
    PostedAll said d d'
  let judged (ended : Option PlayerId) :=
    (p ≤ e.window → stays { e with due := now, lateMark := e.kind == .pulse && e.lateMark }) ∧
    (e.window < p → e.lateRun = true → stays { e with due := now, lateMark := true }) ∧
    (e.window < p → e.lateRun = false →
      leaves false ended 0 0 [say .lateSkipped e.tag e.due (lowestLine e.lines) (sat32 p) 0])
  let phase (ph : Phase) := ∃ w, e.phase = some ⟨ph, w⟩
  (e.kind = .set ∨ e.kind = .marker ∨ (e.kind = .pulse ∧ phase .start) → judged none) ∧
  (e.kind = .captureEnd ∨ e.kind = .armDeadline ∨ (e.kind = .pulse ∧ phase .ending) ∨
    (e.kind = .train ∧ phase .ending ∧ e.train.isSome = true) → stays { e with due := now }) ∧
  (∀ g back m, e.kind = .train → phase .start → e.train = some g → PointsBehind now g back m →
    (g.remaining = 0 ∨ m < g.remaining → stays { e with
      due := gridPointAt g m, train := some { g with missed := g.missed + m, remaining := g.remaining - m } }) ∧
    (g.remaining ≠ 0 → g.remaining ≤ m → leaves true none 0 0
      (if e.notify || e.lateMark then [say (if e.lateMark then .lateDone else .done) e.tag now (lowestLine e.lines)
        (sat32 g.driven) (sat32 (g.missed + g.remaining))] else []))) ∧
  (∀ q, e.kind = .patternStep → e.player = some q →
    let pl := d.player q
    (pl.state = .priming → judged (some q)) ∧
    (pl.state = .playing → leaves false (some q) pl.lines pl.rest
      [say .timeStepped pl.tag now (lowestLine pl.lines) (sat32 pl.applied) (sat32 pl.completed)]))

/-- A forward step to `now` passes over the entries of a list in its order, each with its lateness, `late` of them resolved
late and `skipped` of them skipped or ended (R35). -/
def PassedInTurn (now : Time) : List (Entry × Nat) → Device → Device → Nat → Nat → Prop
  | [], d, d', late, skipped => d' = d ∧ late = 0 ∧ skipped = 0
  | (e, p) :: rest, d, d', late, skipped => ∃ (x : Device) (isLate : Bool) (l k : Nat), PassedOver now p e d x isLate ∧
      PassedInTurn now rest x d' l k ∧ late = l + isLate.toNat ∧ skipped = k + (!isLate).toNat

/-- The final completion of an entry: `normal`, or LATE_DONE with a late mark (R26). -/
def finalCompletion (e : Entry) (normal : Status) (x1 x2 : W32) (d : Device) : Completion :=
  plainCompletion (.stream e.stream) (entryKindCode e.kind) (if e.lateMark then .lateDone else normal) e.tag d.tb.now
    (lowestLine e.lines) (d.stream e.stream).head x1 x2

/-- A resolved time `t` is kept at an admission: due at `t` when it is now or ahead, due now when it lies behind within
the window, or behind it with LATE_RUN and then with a late mark (R32). -/
def KeptDue (now t : Time) (window : Nat) (lateRun : Bool) (due : Time) (late : Bool) : Prop :=
  ((classify now t = .present ∨ ∃ k, classify now t = .ahead k) ∧ due = t ∧ late = false) ∨
    ∃ p, classify now t = .behind p ∧ due = now ∧
      ((p ≤ window ∧ late = false) ∨ (window < p ∧ lateRun = true ∧ late = true))

/-- The stream context of a consumed record: a REL_ADV record moves the anchor to its resolved time (R45, R51). -/
def Stream.consumedAt (threshold : Nat) (r : Record) (t : Time) (x : Stream) : Stream :=
  (if StreamRecord.timeRef r = 2 then { x with anchor := t } else x).consumed threshold

/-- An admission inserted the entry `e` and consumed its record: an entry due now in RUNNING opens an instant (R16, R24,
R54). -/
def Inserted (e : Entry) (n : StreamId) (x : Stream) (d d' : Device) : Prop :=
  d' = { d with calendar := insertEntry d.tb.now e d.calendar,
                instantOpen := d.instantOpen || (d.tb.mode == .running && e.due == d.tb.now), streams := d'.streams } ∧
    OnlyStream n x d d'

/-- Every line of the mask is the stream's and in the mode (R48, R83). -/
def OwnedInMode (d : Device) (n : StreamId) (mode : LineMode) (m : Mask) : Prop :=
  ∀ l, inMask m l = true → (d.line l).owner = some n ∧ (d.line l).mode = mode

/-- The dispatcher grants an entry: the stream's held count is below its quota and fewer than 512 entries stand (R22). -/
def MayTakeEntry (d : Device) (n : StreamId) : Prop :=
  (d.calendar.filter (fun e => e.stream == n)).length < (d.stream n).quota ∧ d.calendar.length < 512

/-- No other stream waits with the reason. -/
def WaitsAlone (d : Device) (n : StreamId) (w : WaitReason) : Prop :=
  (d.stream n).state = .waiting ∧ (d.stream n).reason = w ∧
    ∀ m, m ≠ n → ¬((d.stream m).state = .waiting ∧ (d.stream m).reason = w)

/-- The streams `ns` are served one after another by an arbiter, each the choice of its moment with nothing of `before`
pending, until none is to be served. -/
def ServedInTurn (choice : Device → Option StreamId) (before : List Urgency) : List StreamId → Device → Device → Prop
  | [], d, d' => d' = d ∧ choice d = none ∧ calm false before d = true
  | n :: ns, d, d' => choice d = some n ∧ calm false before d = true ∧
      ServedInTurn choice before ns (resumeHead n d) d'

/-! ## Commands one after another -/

/-- The outcome of commands run one after another. -/
def runAll : List Instr → State → Host.Outcome State Fault Refusal
  | [], s => .next s
  | c :: cs, s =>
    match exec c s with
    | .next t => runAll cs t
    | .fault f => .fault f
    | .refused r => .refused r

/-- The commands of the samples that a period has still to take: one of every INPUT line of which none has been taken in
it (R75), in ascending order of the lines and with the capture before the arm waits (the model's choices, logs 7 and 17),
each at the level that the last sample of its line showed (the model's choice, log 37). -/
def samples (d : Device) : List Instr :=
  (allLines.filter (fun l => (d.line l).mode == .input && !(d.line l).sampled)).map (fun l =>
    .inputSample l (if (d.line l).agree = 0 then (d.line l).filtered else !(d.line l).filtered) false)

/-- A period has passed for every read, write and running coalescing timer (R147, R169, R171), and no line has been
sampled in the next one (R75). -/
def aged (d : Device) : Device :=
  { d with
    lines := d.lines.map (fun x => { x with sampled := false }),
    reads := d.reads.map (fun r => { r with elapsed := r.elapsed + 1 }),
    writes := d.writes.map (fun w => { w with elapsed := w.elapsed + 1 }),
    queues := d.queues.map (fun c => { c with timer := c.timer.map (· + 1) }) }

/-- The commands of the counts that have reached their limits, 100 periods for each microsecond (log 6), in the order in
which a period takes them (the model's choice, log 7). -/
def timeouts (d : Device) : List Instr :=
  (d.reads.filter (fun r => decide (100 * r.timeout ≤ r.elapsed))).map (fun r => .readTimeout r.identity) ++
    (d.writes.filter (fun w => decide (100 * w.timeout ≤ w.elapsed))).map (fun w => .writeTimeout w.identity) ++
    (allQueues.filter (fun q => (d.queue q).timer.any (fun t => decide (100 * (d.queue q).timeThreshold ≤ t)))).map
      .coalescingTimeout

/-! ## Refusals -/

/-- The stream has halted and nothing else of the part has changed but what the halt brings: its context as R127 leaves
it, an arm wait's deadline entry removed, and the one completion `c` posted (R50, R98, R127). -/
def HaltedWith (n : StreamId) (c : Completion) (d d' : Device) : Prop :=
  d' = { d with calendar := d.calendar.filter (fun e => !isDeadlineOf n e),
                reports := d.reports ++ (d.calendar.filter (isDeadlineOf n)).map reportOf,
                streams := d'.streams, holding := d'.holding, queues := d'.queues } ∧
    OnlyStream n (d.stream n).afterHalt d d' ∧ Posted (d.stream n).target c d d'

/-- The STREAM_HALTED of a refused record (R50). -/
def refusalCompletion (n : StreamId) (r : Record) (code : RefusalCode) (line : Nat) (x2 : W32) (d : Device) :
    Completion :=
  plainCompletion (.stream n) (StreamRecord.kind r) .streamHalted (StreamRecord.tag r) d.tb.now line (d.stream n).head
    (refusalCode code) x2

/-! ## Control records -/

/-- The part after a control record or failed place has been consumed with no effect but its one completion (R160). -/
def ControlAnswered (kind : Byte) (status : Status) (tag : Tag) (line : Nat) (x1 x2 : W32) (d d' : Device) : Prop :=
  d' = { d with ctl := d.ctl.consumed, holding := d'.holding, queues := d'.queues } ∧
    Posted 0 (plainCompletion .control kind status tag d.tb.now line d.ctl.consumed.head x1 x2) d d'

/-- A ring in range: its base a multiple of 32, its last byte at or below 2^64 − 1, its size a power of two from 16 to
2^`most` records (R118, R138, 9.2). -/
def RingInRange (base size most : Nat) : Prop :=
  base % 32 = 0 ∧ base + 32 * size ≤ 2 ^ 64 ∧ ∃ j ≤ most, 4 ≤ j ∧ size = 2 ^ j

/-- A bootstrap block that passes every check of 9.2, its fields where 12.4 puts them (R153, R174). -/
def BootBlockValid (data : List Byte) : Prop :=
  let field (o n : Nat) := bytesAt data o n
  field 0 4 = 0x5A423208 ∧ field 4 2 = 1 ∧ RingInRange (field 8 8) (field 16 2) 8 ∧
    RingInRange (field 24 8) (field 32 2) 12 ∧ 1 ≤ field 34 1 ∧ 1 ≤ field 20 2 ∧
    field 6 2 = 0 ∧ field 18 2 = 0 ∧ field 22 2 = 0 ∧ field 35 1 = 0 ∧ field 38 26 = 0

/-! ## Events of the host and of the device states -/

/-- The part ignores a command of the host, and says so in EVENT CMD_IGNORED (R167). -/
def Ignored (c : Instr) (s : State) : Prop :=
  exec c s = .next { s with dev := { s.dev with host := { s.dev.host with event := s.dev.host.event ||| 0x400#32 } } }

/-- The part after its passage to OFF (R14, R155): every block at its reset values but the TIME_HI latch, the host port's
registers and its reads and writes; EVENT has the attention bit of each queue with unsignalled records added (R149). Log 23 names the reset values that are the
model's. -/
def PassedToOff (d d' : Device) : Prop :=
  d' = { Device.reset with tb := { Timebase.reset with timeHi := d.tb.timeHi },
                           host := { d.host with event := d'.host.event }, reads := d.reads, writes := d.writes,
                           nextRead := d.nextRead, nextWrite := d.nextWrite } ∧
    (∀ q, attnSet d' q = true ↔ attnSet d q = true ∨ 0 < (d.queue q).unsignalled) ∧
    d'.host.event &&& 0xFFFFFFF0#32 = d.host.event &&& 0xFFFFFFF0#32

/-- The due time of an end time or deadline `t`: `t` itself when it is now or ahead, and now when it lies behind (R84,
R94). -/
def DueOfContext (now t due : Time) : Prop :=
  ((classify now t = .present ∨ ∃ k, classify now t = .ahead k) ∧ due = t) ∨
    ((∃ p, classify now t = .behind p) ∧ due = now)

/-- The place of a stream in the cycle of the streams that begins after a round-robin position (R170). -/
def placeInCycle (position : Option StreamId) (n : StreamId) : Nat :=
  match position with
  | none => n.val
  | some k => (n - k - 1).val

/-! ## Invariants -/

/-- The holding buffer never holds more than 64 records, each for a queue that is ACTIVE (R142, R146). -/
def HoldingWf (d : Device) : Prop :=
  d.holding.length ≤ 64 ∧ ∀ h ∈ d.holding, (d.queue h.queue).state = .active

/-- The read table never holds more than 8 reads, and no two of one identity (R169). -/
def ReadsWf (d : Device) : Prop :=
  d.reads.length ≤ 8 ∧ (d.reads.map (·.identity)).Nodup ∧ ∀ r ∈ d.reads, r.identity < d.nextRead

/-- The calendar never holds more than 512 entries (R19). -/
def CalendarWf (d : Device) : Prop := d.calendar.length ≤ 512

/-- No stream holds more entries than its quota (R19), and an IDLE or STOPPING stream holds none (R117). -/
def QuotaWf (d : Device) : Prop :=
  ∀ n, heldCount d n ≤ (d.stream n).quota ∧
    ((d.stream n).state = .idle ∨ (d.stream n).state = .stopping → heldCount d n = 0)

/-- The list is in order (R16), and every entry is now or ahead within the horizon (R18). What a re-insertion adds to now
stays in its field: widths and periods (R15) and the holds of steps (6.3); so do those of a record that waits for space or
for a player, whose fields have been checked (R46, R52). -/
def DueWf (d : Device) : Prop :=
  d.calendar.Pairwise (fun a b => staysAhead d.tb.now a b = true) ∧
    (∀ e ∈ d.calendar, dist d.tb.now e.due ≤ 2 ^ 46) ∧
    (∀ e ∈ d.calendar, (∀ p, e.phase = some p → p.width < 2 ^ 32) ∧
      (∀ g, e.train = some g → 1 ≤ g.period ∧ g.period < 2 ^ 32)) ∧
    (∀ p, ∀ x ∈ (d.player p).buffer, x.hold < 2 ^ 24) ∧
    (∀ n, (d.stream n).state = .waiting → ((d.stream n).reason = .space ∨ (d.stream n).reason = .player) →
      ∃ r k, (d.stream n).buffer.head? = some r ∧ streamKindOf (StreamRecord.kind r) = some k ∧ fieldsOk k r = true)

/-- The timebase: prescale 1 to 256, the divider count below it and 0 but in RUNNING; the counts of the monitor in
range, the qualification count full exactly while the reference is present; RUNNING only with the reference present and
LOST only without it (R1, R4, R6 to R10). -/
def TimebaseWf (d : Device) : Prop :=
  1 ≤ d.tb.prescale ∧ d.tb.prescale ≤ 256 ∧ d.tb.divider < d.tb.prescale ∧
    (d.tb.mode ≠ .running → d.tb.divider = 0) ∧ d.tb.gap ≤ 64 ∧ d.tb.qual ≤ 4096 ∧
    (d.tb.present = true ↔ d.tb.qual = 4096) ∧ (d.tb.mode = .running → d.tb.present = true) ∧
    (d.tb.mode = .lost → d.tb.present = false)

/-- A line: its output level is 0 but in OUTPUT mode, its filtered level and agreement count are 0 but in INPUT mode,
and the agreement count stays within the filter length, at most 15 (R65, R67, R76). -/
def Line.Wf (x : Line) : Prop :=
  (x.mode ≠ .output → x.out = false) ∧ (x.mode ≠ .input → x.filtered = false ∧ x.agree = 0) ∧
    x.agree ≤ x.filterLength ∧ x.filterLength ≤ 15

/-- Every line of the line table. -/
def LinesWf (d : Device) : Prop := ∀ l, (d.line l).Wf

/-- A stream has a wait reason exactly while it is WAITING (R117). -/
def WaitsWf (d : Device) : Prop := ∀ n, (d.stream n).reason = .noWait ↔ (d.stream n).state ≠ .waiting

/-- EVENT and EVENT_MASK hold no bit that carries no field (R164, R168). -/
def EventWf (d : Device) : Prop := d.host.event &&& ~~~0x7FF#32 = 0 ∧ d.host.eventMask &&& ~~~0x7FF#32 = 0

/-- The counts of the queues stay in their widths, and a coalescing timer runs only with unsignalled records (R137,
R147). -/
def QueuesWf (d : Device) : Prop :=
  ∀ q, (d.queue q).lost ≤ 0xFFFFFFFF ∧ (d.queue q).unsignalled ≤ 255 ∧
    ((d.queue q).timer.isSome = true → 0 < (d.queue q).unsignalled)

end Sys2Proof.Machine
end

