-- ==== Sys2Proof/Certificates/Slice0/Obligations.lean ====
section
/-! DEFINITION. The statements for the provers. -/

open Sys2Proof Sys2Proof.Machine

/-! ## The queue of commands and reset -/

/-- A step takes the command at the front of the queue and runs `exec` on it with the queue's rest. -/
def Obligations.StepTakesFrontCommand : Prop :=
  ∀ (c : Instr) (rest : List Instr) (s : State), s.pending = c :: rest → step s = exec c { s with pending := rest }

/-- On an empty queue one period of the internal oscillator passes (the model's choice, log 1). Every INPUT line is
sampled once in it (R75): one of which no sample has been taken in the period is sampled as by INPUT_SAMPLE, at the level
that its last sample showed (the model's choice, log 37). Then the gap count rises, and as it reaches 64 the gap is taken
as by REF_GAP (R6, R8); the elapsed time of every read and write and every running timer rises by one, and each that has
reached its limit, of 100 periods for a microsecond (log 6), runs out as by READ_TIMEOUT, WRITE_TIMEOUT or
COALESCING_TIMEOUT (R147, R169, R171). The order of all these, and of capture and arm waits at an edge so accepted, is
the model's choice (logs 7 and 17). With nothing urgent, no read, write or timer running, the gap count below its limit
and no change of a line at the end of its filter, only the gap count moves, the agreement count of each line whose change
is in progress (R76), and the mark `sampled`, the model's own (log 37). -/
def Obligations.IdlePeriodRaisesGapCount : Prop :=
  ∀ s : State, s.pending = [] →
    (SettledNow s → s.dev.reads = [] → s.dev.writes = [] → (∀ q, (s.dev.queue q).timer = none) → s.dev.tb.gap < 63 →
      (∀ l, (s.dev.line l).mode = .input → (s.dev.line l).sampled = false → (s.dev.line l).agree ≠ 0 →
        (s.dev.line l).agree < (s.dev.line l).filterLength) →
      ∃ t, step s = .next t ∧ t.pending = [] ∧
        t.dev = { s.dev with tb := { s.dev.tb with gap := s.dev.tb.gap + 1 }, lines := t.dev.lines } ∧
        ∀ l, t.dev.line l =
          let x := s.dev.line l
          { x with sampled := false,
                   agree := if x.mode = .input ∧ x.sampled = false ∧ x.agree ≠ 0 then x.agree + 1 else x.agree }) ∧
    (∀ v u : State, s.dev.host.resetN = true → runAll (samples s.dev) s = .next v →
      let w := { v with dev := settle true allUrgencies v.dev }
      (w.dev.tb.gap < 63 → u = { w with dev := { w.dev with tb := { w.dev.tb with gap := w.dev.tb.gap + 1 } } }) →
      (w.dev.tb.gap = 63 → exec .refGap v = .next u) → (63 < w.dev.tb.gap → u = w) →
      step s = runAll (timeouts (aged u.dev)) { u with dev := aged u.dev })

/-- Every command leads from every state to a next state, with the queue of waiting commands as it was. -/
def Obligations.EveryCommandCompletes : Prop :=
  ∀ (c : Instr) (s : State), ∃ t, exec c s = .next t ∧ t.pending = s.pending

/-- The values after pin reset of R14, R40, R79, R115, R135, R150, R163, R166, R167, R168 and R169. -/
def Obligations.ResetLeavesEveryBlock : Prop :=
  State.reset.pending = [] ∧
  (let d := State.reset.dev
   d.tb = { now := 0, prescale := 1, divider := 0, mode := .held, present := false, gap := 0, qual := 0, timeHi := 0 } ∧
   d.calendar = [] ∧ d.reports = [] ∧ freeCount d = 512 ∧ (∀ n, heldCount d n = 0) ∧
   (∀ l, (d.line l).mode = .unassigned ∧ (d.line l).owner = none ∧ (d.line l).out = false ∧ (d.line l).safe = false ∧
     (d.line l).filterLength = 0 ∧ (d.line l).filtered = false ∧ (d.line l).agree = 0 ∧ (d.line l).capture = none ∧
     watchCount d l = 0 ∧ pin d l = none) ∧
   (∀ p, (d.player p).state = .free ∧ (d.player p).stream = none ∧ (d.player p).buffer = [] ∧
     (d.player p).request = .idle) ∧
   (∀ n, (d.stream n).state = .idle ∧ (d.stream n).reason = .noWait ∧ (d.stream n).configured = false ∧
     (d.stream n).base = 0 ∧ (d.stream n).size = 0 ∧ (d.stream n).prio = 0 ∧ (d.stream n).quota = 0 ∧
     (d.stream n).target = 0 ∧ (d.stream n).head = 0 ∧ (d.stream n).tail = 0 ∧ (d.stream n).buffer = [] ∧
     (d.stream n).request = .idle ∧ (d.stream n).anchor = 0 ∧ (d.stream n).armWait = none) ∧
   d.threshold = 0 ∧ d.holding = [] ∧ d.outstanding = none ∧
   (∀ q, (d.queue q).state = .unconfigured ∧ (d.queue q).base = 0 ∧ (d.queue q).size = 0 ∧ (d.queue q).tail = 0 ∧
     (d.queue q).head = 0 ∧ (d.queue q).phase = true ∧ (d.queue q).lost = 0 ∧ (d.queue q).countThreshold = 0 ∧
     (d.queue q).timeThreshold = 0 ∧ (d.queue q).unsignalled = 0 ∧ (d.queue q).timer = none) ∧
   d.ctl = { mode := .off, base := 0, size := 0, head := 0, tail := 0, buffer := [], request := .idle, query := none,
             timeout := 0, boot := .idle } ∧
   d.host.bootAddr = 0 ∧ d.host.event = 0 ∧ d.host.eventMask = 0 ∧ intAsserted d = false ∧ quiet d = true ∧
   d.reads = [] ∧ d.writes = [] ∧ (∀ k, roundRobinAt d k = none))

/-- Every invariant of the part holds after reset. -/
def Obligations.ResetMeetsEveryInvariant : Prop :=
  HoldingWf State.reset.dev ∧ ReadsWf State.reset.dev ∧ CalendarWf State.reset.dev ∧ TimebaseWf State.reset.dev ∧
    LinesWf State.reset.dev ∧ WaitsWf State.reset.dev ∧ EventWf State.reset.dev ∧ QueuesWf State.reset.dev ∧
    QuotaWf State.reset.dev ∧ DueWf State.reset.dev

/-- Every step keeps the bound of the holding buffer, and that each record in it is for an ACTIVE queue (R142, R146). -/
def Obligations.StepKeepsHoldingWf : Prop :=
  ∀ s t : State, HoldingWf s.dev → step s = .next t → HoldingWf t.dev

/-- Every step keeps the bound of the read table and the identities of its reads apart (R169). -/
def Obligations.StepKeepsReadsWf : Prop :=
  ∀ s t : State, ReadsWf s.dev → step s = .next t → ReadsWf t.dev

/-- Every step keeps the bound of the calendar (R19); that no stream holds more entries than its quota (R19), and an
IDLE or STOPPING one none (R117); and the order of the list (R16) with the bound of its due times, each now or ahead by
at most 2^46 (R18). -/
def Obligations.StepKeepsCalendarWf : Prop :=
  (∀ s t : State, CalendarWf s.dev → step s = .next t → CalendarWf t.dev) ∧
  (∀ s t : State, QuotaWf s.dev → step s = .next t → QuotaWf t.dev) ∧
  (∀ s t : State, DueWf s.dev → step s = .next t → DueWf t.dev)

/-- Every step keeps the timebase and the reference monitor well-formed (R1, R4, R6 to R10). -/
def Obligations.StepKeepsTimebaseWf : Prop :=
  ∀ s t : State, TimebaseWf s.dev → step s = .next t → TimebaseWf t.dev

/-- Every step keeps every line well-formed (R65, R67, R76). -/
def Obligations.StepKeepsLinesWf : Prop :=
  ∀ s t : State, LinesWf s.dev → step s = .next t → LinesWf t.dev

/-- Every step keeps wait reasons to WAITING streams (R117). -/
def Obligations.StepKeepsWaitsWf : Prop :=
  ∀ s t : State, WaitsWf s.dev → step s = .next t → WaitsWf t.dev

/-- Every step keeps the bits of EVENT and EVENT_MASK that carry no field at 0 (R164, R168), and the queues' counts in
their widths (R137, R147). -/
def Obligations.StepKeepsEventAndQueuesWf : Prop :=
  (∀ s t : State, EventWf s.dev → step s = .next t → EventWf t.dev) ∧
  (∀ s t : State, QueuesWf s.dev → step s = .next t → QueuesWf t.dev)

/-! ## Shared operations -/

/-- A time is now, ahead by 1 to 2^46, behind by 1 to 2^46, or out of horizon, by its distance from now, both bounds
inclusive. Of two times the one with the smaller distance is the earlier, and two with equal distance are the same
instant (R3). -/
def Obligations.DistanceClassifies : Prop :=
  ∀ now t : Time,
    (classify now t = .present ↔ t = now) ∧
    (∀ k : Nat, classify now t = .ahead k ↔ 1 ≤ k ∧ k ≤ 2 ^ 46 ∧ t = now + BitVec.ofNat 48 k) ∧
    (∀ k : Nat, classify now t = .behind k ↔ 1 ≤ k ∧ k ≤ 2 ^ 46 ∧ now = t + BitVec.ofNat 48 k) ∧
    (classify now t = .outOfHorizon ↔ 2 ^ 46 < (t - now).toNat ∧ (t - now).toNat < 2 ^ 48 - 2 ^ 46) ∧
    (∀ t', dist now t = dist now t' → t = t') ∧
    (∀ e e' : Entry, e.due = t → dist now t < dist now e'.due →
      staysAhead now e e' = true ∧ staysAhead now e' e = false)

/-- The dispatcher places an entry behind every entry that is earlier, or equal with a priority at least its own, and
before every other, and keeps the order of the list (R16). -/
def Obligations.InsertionKeepsListOrder : Prop :=
  ∀ (now : Time) (e : Entry) (l : List Entry), l.Pairwise (fun a b => staysAhead now a b = true) →
    (insertEntry now e l).Pairwise (fun a b => staysAhead now a b = true) ∧
    ∃ a b, l = a ++ b ∧ insertEntry now e l = a ++ e :: b ∧
      (∀ x ∈ a, dist now x.due < dist now e.due ∨ (dist now x.due = dist now e.due ∧ e.prio ≤ x.prio)) ∧
      (∀ y ∈ b, dist now e.due < dist now y.due ∨ (dist now e.due = dist now y.due ∧ y.prio < e.prio))

/-- A posted completion enters the holding buffer with the lost count as its prefix, or is counted, and nothing else of
the part changes (R142, R144). -/
def Obligations.PostTakesOrCounts : Prop :=
  ∀ (q : CqId) (c : Completion) (d : Device),
    Posted q c d (post q c d) ∧
    post q c d = { d with holding := (post q c d).holding, queues := (post q c d).queues }

/-- A drive sets the output level of the OUTPUT lines of its mask and touches nothing else (R74). -/
def Obligations.DriveSetsOutputLines : Prop :=
  ∀ (m levels : Mask) (d : Device), Driven m levels d (applyDrive m levels d) ∧
    applyDrive m levels d = { d with lines := (applyDrive m levels d).lines }

/-- A completion is written as 32 bytes: phase, source, kind, status and the other fields at the offsets of 12.3. -/
def Obligations.CompletionBytesLayout : Prop :=
  ∀ (phase : Bool) (c : Completion), c.line < 32 → c.head < 65536 →
    (completionBytes phase c).length = 32 ∧
    bytesAt (completionBytes phase c) 0 1 = phase.toNat ∧
    bytesAt (completionBytes phase c) 1 1 = sourceCode c.source ∧
    bytesAt (completionBytes phase c) 2 1 = c.kind.toNat ∧
    bytesAt (completionBytes phase c) 3 1 = statusCode c.status ∧
    bytesAt (completionBytes phase c) 4 2 = c.tag.toNat ∧
    bytesAt (completionBytes phase c) 6 1 = c.line ∧
    bytesAt (completionBytes phase c) 7 1 = c.rising.toNat + 2 * c.frozen.toNat ∧
    bytesAt (completionBytes phase c) 8 6 = c.time.toNat ∧
    bytesAt (completionBytes phase c) 14 2 = c.head ∧
    bytesAt (completionBytes phase c) 16 4 = c.x1.toNat ∧
    bytesAt (completionBytes phase c) 20 4 = c.x2.toNat ∧
    bytesAt (completionBytes phase c) 24 8 = 0

/-! ## Device time (chapter 1) -/

/-- TICK: device time rises by one, modulo 2^48, and the divider and gap counts return to 0; nothing else changes. The
gap count returns because the tick is an edge of the reference (the model's choice, log 4). -/
def Obligations.TickAdvancesDeviceTime : Prop :=
  ∀ s : State, SettledNow s → s.dev.tb.mode = .running →
    exec .tick s = .next { s with dev := { s.dev with
      tb := { s.dev.tb with now := s.dev.tb.now + 1, divider := 0, gap := 0 } } }

/-- REFERENCE_EDGE. In RUNNING the divider count rises, or returns to 0 with a tick at P; the gap count returns to 0; the
qualification count rises while the reference is absent, and its 4096th edge sets the reference-present flag and makes a
LOST timebase RUNNING with the divider count at 0 and REF_RESTORED (R1, R6, R7, R9). An edge that makes the timebase
RUNNING is not counted towards the first tick (DEDUCED, log 5), and its REF_RESTORED comes before the completions of the
entries that then expire (the model's choice, log 33). -/
def Obligations.ReferenceEdgeCounts : Prop :=
  ∀ s : State, SettledNow s →
    (s.dev.tb.mode = .running → s.dev.tb.present = true → s.dev.tb.divider + 1 < s.dev.tb.prescale →
      exec .referenceEdge s = .next { s with dev := { s.dev with
        tb := { s.dev.tb with gap := 0, divider := s.dev.tb.divider + 1 } } }) ∧
    (s.dev.tb.mode = .running → s.dev.tb.present = true → s.dev.tb.divider + 1 = s.dev.tb.prescale →
      exec .referenceEdge s = .next { s with dev := { s.dev with
        tb := { s.dev.tb with gap := 0, divider := 0, now := s.dev.tb.now + 1 } } }) ∧
    (s.dev.tb.mode ≠ .running → s.dev.tb.present = true →
      exec .referenceEdge s = .next { s with dev := { s.dev with tb := { s.dev.tb with gap := 0 } } }) ∧
    (s.dev.tb.mode ≠ .running → s.dev.tb.present = false → s.dev.tb.qual + 1 < 4096 →
      exec .referenceEdge s = .next { s with dev := { s.dev with
        tb := { s.dev.tb with gap := 0, qual := s.dev.tb.qual + 1 } } }) ∧
    (s.dev.tb.mode = .held → s.dev.tb.present = false → 4096 ≤ s.dev.tb.qual + 1 →
      exec .referenceEdge s = .next { s with dev := { s.dev with
        tb := { s.dev.tb with gap := 0, qual := 4096, present := true } } }) ∧
    (s.dev.tb.mode = .lost → s.dev.tb.present = false → 4096 ≤ s.dev.tb.qual + 1 →
      ∃ t, exec .referenceEdge s = .next t ∧ t.pending = s.pending ∧
        t.dev = { s.dev with tb := t.dev.tb, holding := t.dev.holding, queues := t.dev.queues } ∧
        t.dev.tb = { s.dev.tb with gap := 0, qual := 4096, present := true, mode := .running, divider := 0 } ∧
        Posted 0 (plainCompletion .device 0 .refRestored 0 s.dev.tb.now 0 0 0 0) s.dev t.dev)

/-- REF_GAP: the flag clears and the qualification count returns to 0; a RUNNING timebase with the flag set becomes LOST
and posts REF_LOST to CQ0 (R8). REF_QUALIFIED: the flag sets; a LOST timebase becomes RUNNING with the divider count at
0 and posts REF_RESTORED to CQ0 (R9). Each command asserts the count that makes its event, 64 periods or 4096 edges (the
model's choice, log 4). REF_RESTORED comes before the completions of the entries that then expire (the model's choice,
log 33). -/
def Obligations.ReferenceIsLostAndRestored : Prop :=
  (∀ s : State, SettledNow s →
    (s.dev.tb.present = true → s.dev.tb.mode = .running →
      ∃ t, exec .refGap s = .next t ∧ t.pending = s.pending ∧
        t.dev = { s.dev with tb := t.dev.tb, holding := t.dev.holding, queues := t.dev.queues } ∧
        t.dev.tb = { s.dev.tb with gap := 64, qual := 0, present := false, mode := .lost, divider := 0 } ∧
        Posted 0 (plainCompletion .device 0 .refLost 0 s.dev.tb.now 0 0 0 0) s.dev t.dev) ∧
    (s.dev.tb.present = false ∨ s.dev.tb.mode ≠ .running →
      exec .refGap s = .next { s with dev := { s.dev with
        tb := { s.dev.tb with gap := 64, qual := 0, present := false } } })) ∧
  (∀ s : State, Settled s → s.dev.tb.present = false →
    (s.dev.tb.mode = .lost →
      ∃ t, exec .refQualified s = .next t ∧ t.pending = s.pending ∧
        t.dev = { s.dev with tb := t.dev.tb, holding := t.dev.holding, queues := t.dev.queues } ∧
        t.dev.tb = { s.dev.tb with gap := 0, qual := 4096, present := true, mode := .running, divider := 0 } ∧
        Posted 0 (plainCompletion .device 0 .refRestored 0 s.dev.tb.now 0 0 0 0) s.dev t.dev) ∧
    (s.dev.tb.mode ≠ .lost →
      exec .refQualified s = .next { s with dev := { s.dev with
        tb := { s.dev.tb with gap := 0, qual := 4096, present := true } } }))

/-- TIME_LO_READ: the read returns bits 31 to 0 of device time and latches bits 47 to 32, which TIME_HI then shows; a
read while RESET_N is low returns 0 and latches nothing. It is taken before urgent events that are pending (the model's
choice, log 36). What a read returns at each offset: ID, CONTROL, STATUS, BOOT_ADDR, STREAM_ACTIVE, EVENT, EVENT_MASK,
TIME_LO and TIME_HI, and 0 at write-only and unmapped offsets, for an access that is not an aligned 32-bit one, and in
every bit that carries no field. -/
def Obligations.TimeLoReadLatchesHighHalf : Prop :=
  ∀ s : State,
    (s.dev.host.resetN = true →
      ∃ t, exec .timeLoRead s = .next t ∧ t.pending = s.pending ∧
        t.dev = { s.dev with
          tb := { s.dev.tb with timeHi := s.dev.tb.now.extractLsb' 32 16 },
          host := { s.dev.host with readData := s.dev.tb.now.extractLsb' 0 32 } } ∧
        t.dev.host.readData = readRegister s.dev 0x2C ∧
        readRegister t.dev 0x30 = (s.dev.tb.now.extractLsb' 32 16).zeroExtend 32) ∧
    (s.dev.host.resetN = false →
      exec .timeLoRead s = .next { s with dev := { s.dev with host := { s.dev.host with readData := 0 } } }) ∧
    (s.dev.host.resetN = true →
      let d := s.dev
      let get (o : Nat) := readWindow d o 4
      let quiet := (∀ x ∈ d.reads, x.orphaned = false) ∧ ∀ x ∈ d.writes, x.orphaned = false
      (∀ o size, (size ≠ 4 ∨ o ∉ [0x00, 0x04, 0x08, 0x0C, 0x10, 0x20, 0x24, 0x28, 0x2C, 0x30]) →
        readWindow d o size = 0) ∧
      get 0x00 = 0x32080001#32 ∧
      get 0x04 = (if d.ctl.mode = .loading ∨ d.ctl.mode = .on ∨ d.ctl.mode = .failed then 1 else 0) ∧
      (get 0x08).extractLsb' 0 3 = (match d.ctl.mode with
        | .off => 0 | .loading => 1 | .on => 2 | .failed => 3 | .stopping => 4) ∧
      ((get 0x08).getLsbD 4 = true ↔ quiet) ∧
      (get 0x08).extractLsb' 8 2 = (match d.tb.mode with | .held => 0 | .running => 1 | .lost => 2) ∧
      (get 0x08).getLsbD 12 = d.tb.present ∧ get 0x08 &&& ~~~0x1317#32 = 0 ∧
      get 0x0C = d.host.bootAddr.extractLsb' 0 32 ∧ get 0x10 = d.host.bootAddr.extractLsb' 32 32 ∧
      (∀ n : StreamId, (get 0x20).getLsbD n.val = true ↔ (d.stream n).state ≠ .idle) ∧ get 0x20 &&& ~~~0xFF#32 = 0 ∧
      get 0x24 = d.host.event ∧ get 0x28 = d.host.eventMask ∧ get 0x2C = d.tb.now.extractLsb' 0 32 ∧
      get 0x30 = d.tb.timeHi.zeroExtend 32)

/-! ## The calendar's expiries (chapter 2) -/

/-- SET_EXPIRY: the entry leaves the calendar; its levels are driven on its lines, reaching the OUTPUT lines among
them at the last expiry of the instant, the last level driven on a line standing (R25, R74); its final completion is
posted when it is owed one, and its freeing is reported. The drives of an open instant stand in fields of the model
(log 16). -/
def Obligations.SetExpiryDrivesAndFrees : Prop :=
  ∀ (s : State) (e : Entry) (rest : List Entry), SettledFor beforeExpiry s → s.dev.tb.mode = .running →
    s.dev.calendar = e :: rest → e.due = s.dev.tb.now → e.kind = .set →
    let m := s.dev.stagedMask ||| e.lines
    let v := (s.dev.stagedLevels &&& ~~~e.lines) ||| (e.levels &&& e.lines)
    ∃ t, exec .setExpiry s = .next t ∧ t.pending = s.pending ∧
      t.dev = { s.dev with
        calendar := rest, reports := s.dev.reports ++ [⟨.set, e.stream, e.tag, e.lines⟩],
        instantOpen := t.dev.instantOpen, stagedMask := t.dev.stagedMask, stagedLevels := t.dev.stagedLevels,
        lines := t.dev.lines, holding := t.dev.holding, queues := t.dev.queues } ∧
      (∀ y, rest.head? = some y → y.due = s.dev.tb.now → t.dev.instantOpen = true ∧ t.dev.stagedMask = m ∧
        t.dev.stagedLevels = v ∧ t.dev.lines = s.dev.lines) ∧
      ((∀ y, rest.head? = some y → y.due ≠ s.dev.tb.now) → t.dev.instantOpen = false ∧ t.dev.stagedMask = 0 ∧
        t.dev.stagedLevels = 0 ∧ Driven m v s.dev t.dev) ∧
      PostedIf (e.notify || e.lateMark) (s.dev.stream e.stream).target (finalCompletion e .done 0 0 s.dev) s.dev t.dev

/-- PULSE_EXPIRY: in phase START the levels are driven and the entry is re-inserted one width later in phase END; in
phase END the complement is driven, the final completion is posted when owed, and the entry is freed. The drives reach
the lines at the last expiry of the instant. -/
def Obligations.PulseExpiryDrivesBothPhases : Prop :=
  ∀ (s : State) (e : Entry) (rest : List Entry) (w : Nat), AtHead s e rest → e.kind = .pulse →
    (e.phase = some ⟨.start, w⟩ → 1 ≤ w → w < 2 ^ 32 →
      ∃ t, exec .pulseExpiry s = .next t ∧ t.pending = s.pending ∧
        t.dev = WithInstant { s.dev with
          calendar := insertEntry s.dev.tb.now
            { e with due := s.dev.tb.now + BitVec.ofNat 48 w, phase := some ⟨.ending, w⟩ } rest } t.dev ∧
        InstantGoesOn e.lines e.levels s.dev t.dev) ∧
    (e.phase = some ⟨.ending, w⟩ →
      ∃ t, exec .pulseExpiry s = .next t ∧ t.pending = s.pending ∧
        t.dev = WithInstant { s.dev with
          calendar := rest, reports := s.dev.reports ++ [⟨.pulse, e.stream, e.tag, e.lines⟩],
          holding := t.dev.holding, queues := t.dev.queues } t.dev ∧
        InstantGoesOn e.lines (~~~e.levels) s.dev t.dev ∧
        PostedIf (e.notify || e.lateMark) (s.dev.stream e.stream).target (finalCompletion e .done 0 0 s.dev) s.dev
          t.dev)

/-- TRAIN_EXPIRY. In phase START the levels are driven, pulses driven rises by one, and the entry is re-inserted one
width later in phase END. In phase END the complement is driven and the count falls by one; the train is done when the
count is then 0, or when the grid points behind now bring it to 0; otherwise its next START stands at the first grid
point now or ahead, the points behind counted as missed. `m` is the number of grid points behind now, from the next
one on, which lies `back` ticks behind now or, with `back` 0, now or ahead (for a point beyond the horizon DEDUCED,
log 27). -/
def Obligations.TrainPulsesOnItsGrid : Prop :=
  (∀ (s : State) (e : Entry) (rest : List Entry) (w : Nat) (g : TrainPart), AtHead s e rest → e.kind = .train →
    e.phase = some ⟨.start, w⟩ → e.train = some g → 1 ≤ w → w < 2 ^ 32 →
    ∃ t, exec .trainExpiry s = .next t ∧ t.pending = s.pending ∧
      t.dev = WithInstant { s.dev with
        calendar := insertEntry s.dev.tb.now
          { e with due := s.dev.tb.now + BitVec.ofNat 48 w, phase := some ⟨.ending, w⟩,
                   train := some { g with driven := g.driven + 1 } } rest } t.dev ∧
      InstantGoesOn e.lines e.levels s.dev t.dev) ∧
  (∀ (s : State) (e : Entry) (rest : List Entry) (w back m : Nat) (g : TrainPart), AtHead s e rest → e.kind = .train →
    e.phase = some ⟨.ending, w⟩ → e.train = some g → PointsBehind s.dev.tb.now g back m →
    let finished (missed : Nat) := ∃ t, exec .trainExpiry s = .next t ∧ t.pending = s.pending ∧
      t.dev = WithInstant { s.dev with
        calendar := rest, reports := s.dev.reports ++ [⟨.train, e.stream, e.tag, e.lines⟩],
        holding := t.dev.holding, queues := t.dev.queues } t.dev ∧
      InstantGoesOn e.lines (~~~e.levels) s.dev t.dev ∧
      PostedIf (e.notify || e.lateMark) (s.dev.stream e.stream).target
        (finalCompletion e .done (sat32 g.driven) (sat32 missed) s.dev) s.dev t.dev
    (g.remaining = 1 → finished g.missed) ∧
    (1 < g.remaining → g.remaining - 1 ≤ m → finished (g.missed + (g.remaining - 1))) ∧
    (g.remaining = 0 ∨ m + 1 < g.remaining →
      ∃ t, exec .trainExpiry s = .next t ∧ t.pending = s.pending ∧
        t.dev = WithInstant { s.dev with
          calendar := insertEntry s.dev.tb.now
            { e with due := gridPointAt g m, phase := some ⟨.start, w⟩,
                     train := some { g with missed := g.missed + m, remaining := g.remaining - 1 - m } } rest }
          t.dev ∧
        InstantGoesOn e.lines (~~~e.levels) s.dev t.dev))

/-- MARKER_REACHED: no line is driven; MARKER_REACHED, or LATE_DONE with a late mark, is posted whatever notify, and the
entry is freed. -/
def Obligations.MarkerPostsAndFrees : Prop :=
  ∀ (s : State) (e : Entry) (rest : List Entry), AtHead s e rest → e.kind = .marker →
    ∃ t, exec .markerReached s = .next t ∧ t.pending = s.pending ∧
      t.dev = WithInstant { s.dev with
        calendar := rest, reports := s.dev.reports ++ [⟨.marker, e.stream, e.tag, e.lines⟩],
        holding := t.dev.holding, queues := t.dev.queues } t.dev ∧
      InstantGoesOn 0 0 s.dev t.dev ∧
      Posted (s.dev.stream e.stream).target (finalCompletion e .markerReached 0 0 s.dev) s.dev t.dev

/-- PATTERN_STEP_EXPIRY with next expiry STEP and a step in the buffer: the step's levels are driven on the pattern's
lines, the k-th lowest line of which takes bit k, the player has it applied, and the entry is re-inserted one hold
later; a refill is asked for by R106. -/
def Obligations.PatternStepIsApplied : Prop :=
  ∀ (s : State) (e : Entry) (rest : List Entry) (p : PlayerId) (st : Step) (more : List Step), AtHead s e rest →
    e.kind = .patternStep → e.player = some p → (s.dev.player p).nextEnd = false →
    (s.dev.player p).buffer = st :: more → 1 ≤ st.hold → st.hold < 2 ^ 24 →
    let pl := s.dev.player p
    ∀ levels : Mask, (∀ l, inMask levels l = (inMask pl.lines l &&
        st.levels.getLsbD (allLines.filter (fun j => inMask pl.lines j && decide (j < l))).length)) →
    let completed := if st.last then pl.completed + 1 else pl.completed
    let pl' := { pl with buffer := more, applied := pl.applied + 1, state := .playing, completed := completed,
                         nextEnd := st.last && completed == pl.repeats }
    ∃ t, exec .patternStepExpiry s = .next t ∧ t.pending = s.pending ∧
      t.dev = WithInstant { s.dev with
        calendar := insertEntry s.dev.tb.now { e with due := s.dev.tb.now + BitVec.ofNat 48 st.hold } rest,
        players := t.dev.players } t.dev ∧
      InstantGoesOn pl.lines levels s.dev t.dev ∧
      (∀ q, q ≠ p → t.dev.player q = s.dev.player q) ∧
      (t.dev.player p = if pl.request = .idle ∧ pl.fetched = false ∧ more.length ≤ 8
        then { pl' with request := .pending, asked := min 8 (pl.steps - pl.cursor) } else pl')

/-- PATTERN_STEP_EXPIRY with next expiry END: the rest levels are driven, DONE or LATE_DONE is posted when owed, the
player becomes FREE and the entry is freed (R109). With next expiry STEP and an empty buffer: the rest levels, UNDERRUN,
and the player RETIRING when its read is in flight, else FREE (R110). A FREE or RETIRING player's fields that the spec
leaves open take the model's values (the model's choice, log 23). -/
def Obligations.PatternEndsOrUnderruns : Prop :=
  ∀ (s : State) (e : Entry) (rest : List Entry) (p : PlayerId), AtHead s e rest → e.kind = .patternStep →
    e.player = some p →
    let pl := s.dev.player p
    let ends (after : Player) (owed : Bool) (status : Status) := ∃ t, exec .patternStepExpiry s = .next t ∧
      t.pending = s.pending ∧
      t.dev = WithInstant { s.dev with
        calendar := rest, reports := s.dev.reports ++ [⟨.patternStep, e.stream, e.tag, e.lines⟩],
        players := t.dev.players, holding := t.dev.holding, queues := t.dev.queues } t.dev ∧
      InstantGoesOn pl.lines pl.rest s.dev t.dev ∧ t.dev.player p = after ∧
      (∀ q, q ≠ p → t.dev.player q = s.dev.player q) ∧
      PostedIf owed (s.dev.stream e.stream).target
        (plainCompletion (.stream e.stream) 0x06 status pl.tag s.dev.tb.now (lowestLine pl.lines)
          (s.dev.stream e.stream).head (sat32 pl.applied) (sat32 pl.completed)) s.dev t.dev
    (pl.nextEnd = true →
      ends Player.reset (e.notify || e.lateMark) (if e.lateMark then .lateDone else .done)) ∧
    (pl.nextEnd = false → pl.buffer = [] → (pl.request = .idle ∨ pl.request = .pending) →
      ends Player.reset true .underrun) ∧
    (pl.nextEnd = false → pl.buffer = [] → ∀ k, pl.request = .inFlight k →
      ends { Player.reset with state := .retiring, stream := pl.stream, tag := pl.tag, request := .inFlight k } true
        .underrun)

/-- CAPTURE_END: the context of the entry's line ends, with CAPTURE_DONE when its notify flag is set, and the entry is
freed. ARM_TIMEOUT: the arm wait ends, the ARM is consumed and ARM_TIMEOUT is posted whatever notify; with policy resume
the anchor takes device time and the stream is RUNNING, with policy halt it is HALTED. Neither drives a line. -/
def Obligations.ContextsEndAtTheirEntries : Prop :=
  (∀ (s : State) (e : Entry) (rest : List Entry) (l : LineId) (c : Capture), AtHead s e rest → e.kind = .captureEnd →
    e.context = some (.capture l) → (s.dev.line l).capture = some c →
    (∀ y ∈ rest, ¬(y.kind = .captureEnd ∧ y.context = some (.capture l))) →
    let ended := s.dev.modLine l (fun x => { x with capture := none })
    ∃ t, exec .captureEnd s = .next t ∧ t.pending = s.pending ∧
      t.dev = WithInstant { s.dev with
        calendar := rest, reports := s.dev.reports ++ [⟨.captureEnd, e.stream, e.tag, e.lines⟩],
        holding := t.dev.holding, queues := t.dev.queues } t.dev ∧
      InstantGoesOn 0 0 ended t.dev ∧
      PostedIf c.notify (s.dev.stream c.stream).target
        (plainCompletion (.stream c.stream) 0x07 .captureDone c.tag s.dev.tb.now l.val (s.dev.stream c.stream).head
          (sat32 c.captured) (sat32 c.missed)) s.dev t.dev) ∧
  (∀ (s : State) (e : Entry) (rest : List Entry) (w : ArmWait), AtHead s e rest → e.kind = .armDeadline →
    (s.dev.stream e.stream).armWait = some w →
    (∀ y ∈ rest, ¬(y.kind = .armDeadline ∧ y.stream = e.stream)) →
    let x := ({ s.dev.stream e.stream with armWait := none } : Stream).consumed s.dev.threshold
    ∃ t, exec .armTimeout s = .next t ∧ t.pending = s.pending ∧
      t.dev = WithInstant { s.dev with
        calendar := rest, reports := s.dev.reports ++ [⟨.armDeadline, e.stream, e.tag, e.lines⟩],
        streams := t.dev.streams, holding := t.dev.holding, queues := t.dev.queues } t.dev ∧
      InstantGoesOn 0 0 s.dev t.dev ∧
      OnlyStream e.stream (if w.haltOnTimeout then x.afterHalt
        else { x with anchor := s.dev.tb.now, state := .running, reason := .noWait }) s.dev t.dev ∧
      Posted x.target
        (plainCompletion (.stream e.stream) 0x08 .armTimeout w.tag s.dev.tb.now w.line.val x.head 0
          (if w.haltOnTimeout then 1 else 0)) s.dev t.dev)

/-- The arbiter of free space serves, of the waiting streams that fit, the one of highest priority, and of lowest number
among equals, and serves one whenever one fits (R23); so does the arbiter of players, whenever a player is FREE and a
stream waits for one (R103). -/
def Obligations.ArbitersServeByPriority : Prop :=
  ∀ (d : Device) (n : StreamId),
    (spaceChoice d = some n → (d.stream n).state = .waiting ∧ (d.stream n).reason = .space ∧ MayTakeEntry d n ∧
      ∀ m, (d.stream m).state = .waiting → (d.stream m).reason = .space → MayTakeEntry d m →
        (d.stream m).prio < (d.stream n).prio ∨ ((d.stream m).prio = (d.stream n).prio ∧ n ≤ m)) ∧
    ((d.stream n).state = .waiting → (d.stream n).reason = .space → MayTakeEntry d n → spaceChoice d ≠ none) ∧
    (playerChoice d = some n → (d.stream n).state = .waiting ∧ (d.stream n).reason = .player ∧
      (∃ p, (d.player p).state = .free) ∧
      ∀ m, (d.stream m).state = .waiting → (d.stream m).reason = .player →
        (d.stream m).prio < (d.stream n).prio ∨ ((d.stream m).prio = (d.stream n).prio ∧ n ≤ m)) ∧
    ((d.stream n).state = .waiting → (d.stream n).reason = .player → (∃ p, (d.player p).state = .free) →
      playerChoice d ≠ none)

/-- SPACE_GRANT resumes the admission of a timed action that waits alone for space and now fits: its entry is inserted,
the record is consumed and the stream is RUNNING; its time is resolved and judged afresh. PLAYER_GRANT resumes that of a
PATTERN that waits alone for a player, when one is FREE and an entry may be taken: the FREE player of lowest number
becomes PRIMING, the PATTERN_STEP entry is inserted, and the record consumed. Several waiting streams are served in
turn, each the arbiter's choice of its moment, until none is to be served (4096 at most, the model's bound, log 21). A
resumption goes through stages 4, 6 and 7 again, and an ARM through stage 3: it is refused with HORIZON or LINE_MODE,
skipped as late, waits again for SPACE or for PLAYER, or is carried out. -/
def Obligations.GrantsResumeAdmission : Prop :=
  (∀ (s : State) (n : StreamId) (k : Action) (r : Record) (due : Time) (late : Bool), SettledFor beforeSpace s →
    WaitsAlone s.dev n .space → (s.dev.stream n).buffer.head? = some r →
    streamKindOf (StreamRecord.kind r) = some k.streamKind → MayTakeEntry s.dev n →
    KeptDue s.dev.tb.now (resolveTime s.dev n r) (StreamRecord.window r) (StreamRecord.lateRun r) due late →
    ¬(s.dev.tb.mode = .running ∧ due = s.dev.tb.now) →
    ∃ t, exec .spaceGrant s = .next t ∧ t.pending = s.pending ∧
      Inserted (actionEntry k n r (s.dev.stream n).prio due late) n
        (({ s.dev.stream n with state := .running, reason := .noWait } : Stream).consumedAt s.dev.threshold r
          (resolveTime s.dev n r)) s.dev t.dev) ∧
  (∀ (s : State) (n : StreamId) (p : PlayerId) (r : Record) (due : Time) (late : Bool),
    SettledFor beforePlayer s → WaitsAlone s.dev n .player →
    (∀ m, ¬((s.dev.stream m).state = .waiting ∧ (s.dev.stream m).reason = .space)) →
    (s.dev.stream n).buffer.head? = some r → streamKindOf (StreamRecord.kind r) = some .pattern →
    MayTakeEntry s.dev n → (s.dev.player p).state = .free → (∀ q, q < p → (s.dev.player q).state ≠ .free) →
    KeptDue s.dev.tb.now (resolveTime s.dev n r) (StreamRecord.window r) (StreamRecord.lateRun r) due late →
    ¬(s.dev.tb.mode = .running ∧ due = s.dev.tb.now) →
    ∃ t, exec .playerGrant s = .next t ∧ t.pending = s.pending ∧
      Inserted (patternEntry n r (s.dev.stream n).prio p due late) n
        (({ s.dev.stream n with state := .running, reason := .noWait } : Stream).consumedAt s.dev.threshold r
          (resolveTime s.dev n r)) { s.dev with players := t.dev.players } t.dev ∧
      ∀ q, t.dev.player q = if q = p then primedPlayer n r else s.dev.player q) ∧
  (∀ (s : State) (ns : List StreamId) (d' : Device), s.dev.host.resetN = true → ns.length ≤ 4096 →
    (ServedInTurn spaceChoice beforeSpace ns s.dev d' → exec .spaceGrant s = .next { s with dev := d' }) ∧
    (ServedInTurn playerChoice beforePlayer ns s.dev d' → exec .playerGrant s = .next { s with dev := d' })) ∧
  (∀ (d : Device) (n : StreamId) (r : Record), (d.stream n).buffer.head? = some r →
    let t₀ := resolveTime d n r
    let d' := resumeHead n d
    let x : Stream := { d.stream n with state := .running, reason := .noWait }
    let taken := x.consumedAt d.threshold r t₀
    let waits (w : WaitReason) := d' = { d with streams := d'.streams } ∧
      OnlyStream n { d.stream n with state := .waiting, reason := w } d d'
    let refused (code : RefusalCode) (line : Nat) (x2 : W32) := HaltedWith n (refusalCompletion n r code line x2 d) d d'
    let skipped := d' = { d with streams := d'.streams, holding := d'.holding, queues := d'.queues } ∧
      OnlyStream n taken d d' ∧
      ∀ p, classify d.tb.now t₀ = .behind p → Posted x.target (plainCompletion (.stream n) (StreamRecord.kind r)
        .lateSkipped (StreamRecord.tag r) t₀ (lowestLine (StreamRecord.lines r)) taken.head (sat32 p) 0) d d'
    let late := ∃ p, classify d.tb.now t₀ = .behind p ∧ StreamRecord.window r < p ∧ StreamRecord.lateRun r = false
    (∀ k : Action, streamKindOf (StreamRecord.kind r) = some k.streamKind →
      (classify d.tb.now t₀ = .outOfHorizon → refused .horizon 0 0) ∧ (late → skipped) ∧
      ∀ due mark, KeptDue d.tb.now t₀ (StreamRecord.window r) (StreamRecord.lateRun r) due mark →
        (¬MayTakeEntry d n → waits .space) ∧
        (MayTakeEntry d n → Inserted (actionEntry k n r (d.stream n).prio due mark) n taken d d')) ∧
    (streamKindOf (StreamRecord.kind r) = some .pattern →
      (classify d.tb.now t₀ = .outOfHorizon → refused .horizon 0 0) ∧ (late → skipped) ∧
      ∀ due mark, KeptDue d.tb.now t₀ (StreamRecord.window r) (StreamRecord.lateRun r) due mark →
        (¬MayTakeEntry d n → waits .space) ∧
        (MayTakeEntry d n → (∀ p, (d.player p).state ≠ .free) → waits .player) ∧
        ∀ p, MayTakeEntry d n → (d.player p).state = .free → (∀ q, q < p → (d.player q).state ≠ .free) →
          Inserted (patternEntry n r (d.stream n).prio p due mark) n taken { d with players := d'.players } d' ∧
          ∀ q, d'.player q = if q = p then primedPlayer n r else d.player q) ∧
    (∀ l, StreamRecord.lines r = lineBit l → StreamRecord.noEnd r = false →
      (streamKindOf (StreamRecord.kind r) = some .capture →
        (classify d.tb.now t₀ = .outOfHorizon → refused .horizon l.val 0) ∧
        ∀ due, DueOfContext d.tb.now t₀ due →
          (¬MayTakeEntry d n → waits .space) ∧
          (MayTakeEntry d n → Inserted (contextEntry .captureEnd n r (d.stream n).prio due (.capture l)) n taken
              { d with lines := d'.lines } d' ∧
            ∀ k, d'.line k = if k = l then { d.line l with capture := some (openedCapture n r) } else d.line k)) ∧
      (streamKindOf (StreamRecord.kind r) = some .arm →
        ((d.line l).mode ≠ .input → refused .lineMode l.val (StreamRecord.lines r)) ∧
        ((d.line l).mode = .input → classify d.tb.now t₀ = .outOfHorizon → refused .horizon l.val 0) ∧
        ∀ due, (d.line l).mode = .input → DueOfContext d.tb.now t₀ due →
          (¬MayTakeEntry d n → waits .space) ∧
          (MayTakeEntry d n → Inserted (contextEntry .armDeadline n r (d.stream n).prio due .armWait) n
            { x with armWait := some (begunArm r), state := .waiting, reason := .arm } d d'))))

/-! ## Input lines, captures and arm waits (4.7, 4.8, chapter 5) -/

/-- INPUT_SAMPLE: a sample at the filtered level returns the agreement count to 0, one that differs raises it, and the
one that brings it to F + 1 is accepted, as an EDGE_EVENT is; a line not in INPUT mode takes none. EDGE_EVENT on a line
with neither capture nor arm wait changes the filtered level and the agreement count alone. The mark `sampled` says that
the line has had the sample of its period (R75; the model's own, log 37). `armsFirst` says which of capture and arm waits
takes the edge first, where the manual lets either (the model's choice, log 17). -/
def Obligations.FilterAcceptsAfterAgreement : Prop :=
  ∀ (s : State) (l : LineId) (level armsFirst : Bool), Settled s →
    let x := s.dev.line l
    let only (y : Line) (t : State) := t.pending = s.pending ∧ t.dev = { s.dev with lines := t.dev.lines } ∧
      ∀ k, t.dev.line k = if k = l then y else s.dev.line k
    (x.mode ≠ .input → exec (.inputSample l level armsFirst) s = .next s) ∧
    (x.mode = .input → level = x.filtered →
      ∃ t, exec (.inputSample l level armsFirst) s = .next t ∧ only { x with agree := 0, sampled := true } t) ∧
    (x.mode = .input → level ≠ x.filtered → x.agree < x.filterLength →
      ∃ t, exec (.inputSample l level armsFirst) s = .next t ∧ only { x with agree := x.agree + 1, sampled := true } t) ∧
    (x.mode = .input → level ≠ x.filtered → x.filterLength ≤ x.agree →
      exec (.inputSample l level armsFirst) s = exec (.edgeEvent l armsFirst) s) ∧
    (x.mode = .input → x.capture = none → (∀ n w, (s.dev.stream n).armWait = some w → w.line ≠ l) →
      ∃ t, exec (.edgeEvent l armsFirst) s = .next t ∧
        only { x with filtered := !x.filtered, agree := 0, sampled := true } t)

/-- EDGE_EVENT into a capture context: an edge not selected leaves the context; a selected edge is reported in a
CAPTURE_EDGE while the holding buffer holds fewer than 64 records (R85) and counted as missed while it is full (R86); the
edge that brings the count to its limit ends the context after its CAPTURE_EDGE, with its end entry removed and
CAPTURE_DONE when its notify flag is set (R87). Arm waits that watch the line are handed the edge after the context, or
before it with `armsFirst`, where the manual lets either (the model's choice, log 17): an ARM_FIRED then comes before the
CAPTURE_EDGE. The mark `sampled` is the model's own (log 37). -/
def Obligations.CaptureCountsEdges : Prop :=
  ∀ (s : State) (l : LineId) (armsFirst : Bool) (c : Capture), Settled s → (s.dev.line l).mode = .input →
    (s.dev.line l).capture = some c →
    let x := s.dev.line l
    let rising := !x.filtered
    let y : Line := { x with filtered := rising, agree := 0, sampled := true }
    let frozen := s.dev.tb.mode != .running
    let edge (head : Nat) : Completion :=
      { source := .stream c.stream, kind := 0x07, status := .captureEdge, tag := c.tag, time := s.dev.tb.now,
        line := l.val, head := head, rising := rising, frozen := frozen, x1 := sat32 (c.captured + 1),
        x2 := sat32 c.missed }
    let becomes (z : Line) (t : State) := ∀ k, t.dev.line k = if k = l then z else s.dev.line k
    let below := c.limit = 0 ∨ c.captured + 1 ≠ c.limit
    let counted : Line := { y with capture := some { c with captured := c.captured + 1, missed := 0 } }
    (armsFirst = false ∨ (∀ n w, (s.dev.stream n).armWait = some w → w.line ≠ l) →
      let edges := s.dev.edges ++ (allStreams.filter (fun n => (s.dev.stream n).armWait.any (fun w =>
        w.line == l && takesEdge w.edges rising))).map (fun n => ⟨n, rising, s.dev.tb.now, frozen⟩)
      (takesEdge c.edges rising = false →
        ∃ t, exec (.edgeEvent l armsFirst) s = .next t ∧ t.pending = s.pending ∧
          t.dev = { s.dev with lines := t.dev.lines, edges := edges } ∧ becomes y t) ∧
      (takesEdge c.edges rising = true → 64 ≤ s.dev.holding.length →
        ∃ t, exec (.edgeEvent l armsFirst) s = .next t ∧ t.pending = s.pending ∧
          t.dev = { s.dev with lines := t.dev.lines, edges := edges } ∧
          becomes { y with capture := some { c with missed := c.missed + 1 } } t) ∧
      (takesEdge c.edges rising = true → s.dev.holding.length < 64 → below →
        ∃ t, exec (.edgeEvent l armsFirst) s = .next t ∧ t.pending = s.pending ∧
          t.dev = { s.dev with
            lines := t.dev.lines, edges := edges, holding := t.dev.holding, queues := t.dev.queues } ∧
          becomes counted t ∧
          Posted (s.dev.stream c.stream).target (edge (s.dev.stream c.stream).head) s.dev t.dev) ∧
      (takesEdge c.edges rising = true → s.dev.holding.length < 64 → ¬below →
        let endOf (e : Entry) := e.kind == .captureEnd && e.context == some (.capture l)
        ∃ t, exec (.edgeEvent l armsFirst) s = .next t ∧ t.pending = s.pending ∧
          t.dev = { s.dev with
            calendar := s.dev.calendar.filter (fun e => !endOf e),
            reports := s.dev.reports ++ (s.dev.calendar.filter endOf).map reportOf,
            lines := t.dev.lines, edges := edges, holding := t.dev.holding, queues := t.dev.queues } ∧
          becomes { y with capture := none } t ∧
          PostedAll (((s.dev.stream c.stream).target, edge (s.dev.stream c.stream).head) ::
            if c.notify then [((s.dev.stream c.stream).target, plainCompletion (.stream c.stream) 0x07 .captureDone c.tag
              s.dev.tb.now l.val (s.dev.stream c.stream).head (sat32 (c.captured + 1)) 0)] else []) s.dev t.dev)) ∧
    (∀ (n : StreamId) (w : ArmWait), armsFirst = true → (s.dev.stream n).armWait = some w → w.line = l →
      takesEdge w.edges rising = true → (∀ m v, m ≠ n → (s.dev.stream m).armWait = some v → v.line ≠ l) →
      takesEdge c.edges rising = true → s.dev.holding.length < 63 → below →
      let z := ({ s.dev.stream n with armWait := none, anchor := s.dev.tb.now } : Stream).consumed s.dev.threshold
      let fired : Completion :=
        { source := .stream n, kind := 0x08, status := .armFired, tag := w.tag, time := s.dev.tb.now, line := l.val,
          head := z.head, rising := rising, frozen := frozen, x1 := 0, x2 := 0 }
      ∃ t, exec (.edgeEvent l armsFirst) s = .next t ∧ t.pending = s.pending ∧
        t.dev = { s.dev with
          calendar := s.dev.calendar.filter (fun e => !isDeadlineOf n e),
          reports := s.dev.reports ++ (s.dev.calendar.filter (isDeadlineOf n)).map reportOf,
          lines := t.dev.lines, streams := t.dev.streams, holding := t.dev.holding, queues := t.dev.queues } ∧
        becomes counted t ∧ OnlyStream n { z with state := .running, reason := .noWait } s.dev t.dev ∧
        PostedAll ((if w.notify then [(z.target, fired)] else []) ++
          [((s.dev.stream c.stream).target, edge (t.dev.stream c.stream).head)]) s.dev t.dev)

/-- EDGE_EVENT hands the edge to each arm wait that watches the line for its direction, and ARM_FIRED makes the wait of
the stream take it: the deadline entry is removed, the anchor takes the edge's stamp, the ARM is consumed, the stream is
RUNNING, and ARM_FIRED is posted when notify is set. The edge stands handed between the two (the model's choice, log
17), and the mark `sampled` is the model's own (log 37). -/
def Obligations.ArmWaitFires : Prop :=
  (∀ (s : State) (l : LineId), Settled s → (s.dev.line l).mode = .input → (s.dev.line l).capture = none →
    ∃ t, exec (.edgeEvent l false) s = .next t ∧ t.pending = s.pending ∧
      t.dev = { s.dev with lines := t.dev.lines, edges := t.dev.edges } ∧
      (∀ k, t.dev.line k =
        if k = l then { s.dev.line l with filtered := !(s.dev.line l).filtered, agree := 0, sampled := true }
        else s.dev.line k) ∧
      t.dev.edges = s.dev.edges ++ (allStreams.filter (fun n => (s.dev.stream n).armWait.any (fun w =>
        w.line == l && takesEdge w.edges (!(s.dev.line l).filtered)))).map (fun n =>
          ⟨n, !(s.dev.line l).filtered, s.dev.tb.now, s.dev.tb.mode != .running⟩)) ∧
  (∀ (s : State) (n : StreamId) (h : HandedEdge) (w : ArmWait), s.dev.host.resetN = true →
    s.dev.edges.find? (fun h => h.stream == n) = some h → (s.dev.stream n).armWait = some w →
    let x := ({ s.dev.stream n with armWait := none, anchor := h.time } : Stream).consumed s.dev.threshold
    ∃ t, exec (.armFired n) s = .next t ∧ t.pending = s.pending ∧
      t.dev = { s.dev with
        edges := s.dev.edges.erase h, calendar := s.dev.calendar.filter (fun e => !isDeadlineOf n e),
        reports := s.dev.reports ++ (s.dev.calendar.filter (isDeadlineOf n)).map reportOf,
        streams := t.dev.streams, holding := t.dev.holding, queues := t.dev.queues } ∧
      OnlyStream n { x with state := .running, reason := .noWait } s.dev t.dev ∧
      PostedIf w.notify x.target
        { source := .stream n, kind := 0x08, status := .armFired, tag := w.tag, time := h.time, line := w.line.val,
          head := x.head, rising := h.rising, frozen := h.frozen, x1 := 0, x2 := 0 } s.dev t.dev)

/-! ## Admission (chapters 3 and 4, 5.1, 5.5, 6.2) -/

/-- SET, PULSE, TRAIN and MARKER, kept by the judgement of lateness and granted an entry: the entry is inserted, the
record consumed, and a REL_ADV record moves the anchor; nothing is posted and nothing driven. -/
def Obligations.TimedActionsAreInserted : Prop :=
  ∀ (s : State) (n : StreamId) (k : Action) (r : Record) (due : Time) (late : Bool), Admits s n k.streamKind r →
    (k ≠ .marker → OwnedInMode s.dev n .output (StreamRecord.lines r)) →
    KeptDue s.dev.tb.now (resolveTime s.dev n r) (StreamRecord.window r) (StreamRecord.lateRun r) due late →
    MayTakeEntry s.dev n →
    actionEntry k n r (s.dev.stream n).prio due late =
        { kind := k.entryKind, stream := n, prio := (s.dev.stream n).prio, tag := StreamRecord.tag r, due := due,
          lines := StreamRecord.lines r, levels := StreamRecord.levels r, notify := StreamRecord.notify r,
          window := StreamRecord.window r, lateRun := StreamRecord.lateRun r, lateMark := late,
          phase := if k = .pulse ∨ k = .train then some { phase := .start, width := fieldAt r 24 4 } else none,
          train := if k = .train then some { period := fieldAt r 28 4, remaining := fieldAt r 14 2, driven := 0,
                                             missed := 0, origin := due } else none,
          player := none, context := none } ∧
    ∃ t, exec (streamCommand k.streamKind n) s = .next t ∧ t.pending = s.pending ∧
      Inserted (actionEntry k n r (s.dev.stream n).prio due late) n
        ((s.dev.stream n).consumedAt s.dev.threshold r (resolveTime s.dev n r)) s.dev t.dev

/-- A timed action behind now by more than its window, with LATE_RUN clear, is consumed with LATE_SKIPPED and takes no
entry (R32); one that is kept but may not take an entry leaves its stream WAITING with reason SPACE, unconsumed
(R22). -/
def Obligations.TimedActionsAreSkippedOrWait : Prop :=
  ∀ (s : State) (n : StreamId) (k : Action) (r : Record), Admits s n k.streamKind r →
    (k ≠ .marker → OwnedInMode s.dev n .output (StreamRecord.lines r)) →
    let t := resolveTime s.dev n r
    let x := (s.dev.stream n).consumedAt s.dev.threshold r t
    (∀ p, classify s.dev.tb.now t = .behind p → StreamRecord.window r < p → StreamRecord.lateRun r = false →
      ∃ t', exec (streamCommand k.streamKind n) s = .next t' ∧ t'.pending = s.pending ∧
        t'.dev = { s.dev with streams := t'.dev.streams, holding := t'.dev.holding, queues := t'.dev.queues } ∧
        OnlyStream n x s.dev t'.dev ∧
        Posted x.target (plainCompletion (.stream n) (StreamRecord.kind r) .lateSkipped (StreamRecord.tag r) t
          (lowestLine (StreamRecord.lines r)) x.head (sat32 p) 0) s.dev t'.dev) ∧
    (∀ due late, KeptDue s.dev.tb.now t (StreamRecord.window r) (StreamRecord.lateRun r) due late →
      ¬MayTakeEntry s.dev n →
      ∃ t', exec (streamCommand k.streamKind n) s = .next t' ∧ t'.pending = s.pending ∧
        t'.dev = { s.dev with streams := t'.dev.streams } ∧
        OnlyStream n { s.dev.stream n with state := .waiting, reason := .space } s.dev t'.dev)

/-- A record whose kind names no stream kind is refused with BAD_KIND, and one of any kind with a field out of the range
that its kind gives it with BAD_FIELD, and one in range passes to stage 3; stages 3 to 5 refuse with NOT_OWNER and
LINE_MODE and the failing lines, HORIZON, CLAIM_CONFLICT and CAPTURE_BUSY. The stream halts, with its record unconsumed
and one STREAM_HALTED. -/
def Obligations.RecordsAreRefused : Prop :=
  (∀ (k : StreamKind) (r : Record), fieldsOk k r = true ↔ FieldsInRange k r) ∧
  (∀ (s : State) (n : StreamId) (r : Record), Settled s → (s.dev.stream n).state = .running →
    (s.dev.stream n).buffer.head? = some r →
    (streamKindOf (StreamRecord.kind r) = none →
      ∃ t, exec (.streamBadKind n) s = .next t ∧ t.pending = s.pending ∧
        HaltedWith n (refusalCompletion n r .badKind 0 0 s.dev) s.dev t.dev) ∧
    (∀ k, streamKindOf (StreamRecord.kind r) = some k → ¬FieldsInRange k r →
      ∃ t, exec (streamCommand k n) s = .next t ∧ t.pending = s.pending ∧
        HaltedWith n (refusalCompletion n r .badField
          (if k = .capture ∨ k = .arm then lowestLine (StreamRecord.lines r) else 0) 0 s.dev) s.dev t.dev)) ∧
  (∀ (s : State) (n : StreamId) (k : StreamKind) (r : Record), Admits s n k r →
    let m := StreamRecord.lines r
    let refused (code : RefusalCode) (line : Nat) (x2 : W32) := ∃ t, exec (streamCommand k n) s = .next t ∧
      t.pending = s.pending ∧ HaltedWith n (refusalCompletion n r code line x2 s.dev) s.dev t.dev
    (∀ f, k ∈ [StreamKind.set, .pulse, .train, .pattern, .capture, .release] → f ≠ 0 →
      (∀ l, inMask f l = (inMask m l && (s.dev.line l).owner != some n)) → refused .notOwner (lowestLine f) f) ∧
    (∀ f, k ∈ [StreamKind.set, .pulse, .train, .pattern] → (∀ l, inMask m l = true → (s.dev.line l).owner = some n) →
      f ≠ 0 → (∀ l, inMask f l = (inMask m l && (s.dev.line l).mode != .output)) →
      refused .lineMode (lowestLine f) f) ∧
    (∀ l, k = .arm ∨ (k = .capture ∧ (s.dev.line l).owner = some n) → m = lineBit l → (s.dev.line l).mode ≠ .input →
      refused .lineMode l.val m) ∧
    (classify s.dev.tb.now (resolveTime s.dev n r) = .outOfHorizon →
      (k = .marker ∨ (k ∈ [StreamKind.set, .pulse, .train, .pattern] ∧ OwnedInMode s.dev n .output m)) →
      refused .horizon 0 0) ∧
    (k = .anchor → classify s.dev.tb.now (if StreamRecord.timeRef r = 0 then StreamRecord.time r
      else s.dev.tb.now + StreamRecord.time r) = .outOfHorizon → refused .horizon 0 0) ∧
    (∀ l, classify s.dev.tb.now (resolveTime s.dev n r) = .outOfHorizon → StreamRecord.noEnd r = false →
      m = lineBit l → (s.dev.line l).mode = .input → k = .arm ∨ (k = .capture ∧ (s.dev.line l).owner = some n) →
      refused .horizon l.val 0) ∧
    (∀ f, k = .claim → f ≠ 0 →
      (∀ l, inMask f l = (inMask m l && (s.dev.line l).owner.any (fun o => o != n))) →
      refused .claimConflict (lowestLine f) f) ∧
    (∀ l c, k = .capture → m = lineBit l → (s.dev.line l).owner = some n → (s.dev.line l).mode = .input →
      (s.dev.line l).capture = some c →
      (StreamRecord.noEnd r = true ∨ classify s.dev.tb.now (resolveTime s.dev n r) ≠ .outOfHorizon) →
      refused .captureBusy l.val 0))

/-- A NOP is consumed with no other effect, and posts NOP_DONE with the index that follows it when NOTIFY is set. -/
def Obligations.NopIsConsumed : Prop :=
  ∀ (s : State) (n : StreamId) (r : Record), Admits s n .nop r →
    let x := (s.dev.stream n).consumed s.dev.threshold
    ∃ t, exec (.nop n) s = .next t ∧ t.pending = s.pending ∧
      t.dev = { s.dev with streams := t.dev.streams, holding := t.dev.holding, queues := t.dev.queues } ∧
      OnlyStream n x s.dev t.dev ∧ x.head = ((s.dev.stream n).head + 1) % (s.dev.stream n).size ∧
      PostedIf (StreamRecord.notify r) x.target
        (plainCompletion (.stream n) 0x01 .nopDone (StreamRecord.tag r) s.dev.tb.now 0 x.head 0 0) s.dev t.dev

/-- An ANCHOR within the horizon sets the anchor, to its time or to now plus its offset, is consumed, and posts DONE with
the new anchor in its time field when NOTIFY is set. -/
def Obligations.AnchorIsSet : Prop :=
  ∀ (s : State) (n : StreamId) (r : Record), Admits s n .anchor r →
    let v := if StreamRecord.timeRef r = 0 then StreamRecord.time r else s.dev.tb.now + StreamRecord.time r
    classify s.dev.tb.now v ≠ .outOfHorizon →
    let x := ({ s.dev.stream n with anchor := v } : Stream).consumed s.dev.threshold
    ∃ t, exec (.anchor n) s = .next t ∧ t.pending = s.pending ∧
      t.dev = { s.dev with streams := t.dev.streams, holding := t.dev.holding, queues := t.dev.queues } ∧
      OnlyStream n x s.dev t.dev ∧
      PostedIf (StreamRecord.notify r) x.target
        (plainCompletion (.stream n) 0x09 .done (StreamRecord.tag r) v 0 x.head 0 0) s.dev t.dev

/-- A WAIT with no matching output entry is consumed at once, with DONE when NOTIFY is set; with one or more its stream
becomes WAITING with reason BARRIER and keeps the count. BARRIER_PASS: at the report of the last matching output entry of
the stream to be freed, with none remaining, the WAIT is consumed with the count it found, and the stream is RUNNING; the
reports made before it, none of which concerns another waiting stream, have been tested, and those after it stand. -/
def Obligations.WaitHoldsForMatchingEntries : Prop :=
  let matching (d : Device) (n : StreamId) (r : Record) := (d.calendar.filter (fun e => e.stream == n &&
    (e.kind == .set || e.kind == .pulse || e.kind == .train || e.kind == .patternStep) &&
    e.tag &&& StreamRecord.short r == StreamRecord.tag r &&& StreamRecord.short r)).length
  let passed (s t : State) (n : StreamId) (r : Record) (x : Stream) := t.pending = s.pending ∧
    OnlyStream n x s.dev t.dev ∧
    PostedIf (StreamRecord.notify r) x.target
      (plainCompletion (.stream n) (StreamRecord.kind r) .done (StreamRecord.tag r) s.dev.tb.now 0 x.head
        (sat32 x.found) 0) s.dev t.dev
  (∀ (s : State) (n : StreamId) (r : Record), Admits s n .wait r → matching s.dev n r = 0 →
    ∃ t, exec (.wait n) s = .next t ∧
      passed s t n r { ({ s.dev.stream n with found := 0 } : Stream).consumed s.dev.threshold with
        state := .running, reason := .noWait } ∧
      t.dev = { s.dev with streams := t.dev.streams, holding := t.dev.holding, queues := t.dev.queues }) ∧
  (∀ (s : State) (n : StreamId) (r : Record), Admits s n .wait r → 0 < matching s.dev n r →
    ∃ t, exec (.wait n) s = .next t ∧ t.pending = s.pending ∧ t.dev = { s.dev with streams := t.dev.streams } ∧
      OnlyStream n { s.dev.stream n with state := .waiting, reason := .barrier, found := matching s.dev n r }
        s.dev t.dev) ∧
  (∀ (s : State) (n : StreamId) (r : Record) (x : Report) (before after : List Report), SettledFor [.edge] s →
    (s.dev.stream n).state = .waiting → (s.dev.stream n).reason = .barrier →
    (s.dev.stream n).buffer.head? = some r → matching s.dev n r = 0 → s.dev.reports = before ++ x :: after →
    let concerns (y : Report) := y.stream = n ∧
      (y.kind = .set ∨ y.kind = .pulse ∨ y.kind = .train ∨ y.kind = .patternStep) ∧
      y.tag &&& StreamRecord.short r = StreamRecord.tag r &&& StreamRecord.short r
    (∀ y ∈ before, y.stream = n ∨
      ((s.dev.stream y.stream).reason ≠ .barrier ∧ (s.dev.stream y.stream).reason ≠ .release)) →
    concerns x → (∀ y ∈ after, ¬concerns y) →
    ∃ t, exec (.barrierPass n) s = .next t ∧
      passed s t n r { (s.dev.stream n).consumed s.dev.threshold with state := .running, reason := .noWait } ∧
      t.dev = { s.dev with
        reports := after, streams := t.dev.streams, holding := t.dev.holding, queues := t.dev.queues })

/-- PATTERN: with an entry granted and a player FREE, the player of lowest number takes the pattern and is primed, the
PATTERN_STEP entry is inserted, and the record is consumed; without an entry its stream waits for SPACE, without a player
for PLAYER; and behind now beyond its window with LATE_RUN clear it is skipped. -/
def Obligations.PatternTakesPlayer : Prop :=
  ∀ (s : State) (n : StreamId) (r : Record), Admits s n .pattern r →
    OwnedInMode s.dev n .output (StreamRecord.lines r) →
    let t₀ := resolveTime s.dev n r
    let x := (s.dev.stream n).consumedAt s.dev.threshold r t₀
    let waits (w : WaitReason) := ∃ t, exec (.pattern n) s = .next t ∧ t.pending = s.pending ∧
      t.dev = { s.dev with streams := t.dev.streams } ∧
      OnlyStream n { s.dev.stream n with state := .waiting, reason := w } s.dev t.dev
    (∀ due late, KeptDue s.dev.tb.now t₀ (StreamRecord.window r) (StreamRecord.lateRun r) due late →
      (¬MayTakeEntry s.dev n → waits .space) ∧
      (MayTakeEntry s.dev n → (∀ p, (s.dev.player p).state ≠ .free) → waits .player) ∧
      (∀ p, MayTakeEntry s.dev n → (s.dev.player p).state = .free → (∀ q, q < p → (s.dev.player q).state ≠ .free) →
        ∃ t, exec (.pattern n) s = .next t ∧ t.pending = s.pending ∧
          Inserted (patternEntry n r (s.dev.stream n).prio p due late) n x
            { s.dev with players := t.dev.players } t.dev ∧
          patternEntry n r (s.dev.stream n).prio p due late =
            { kind := .patternStep, stream := n, prio := (s.dev.stream n).prio, tag := StreamRecord.tag r, due := due,
              lines := StreamRecord.lines r, levels := StreamRecord.levels r, notify := StreamRecord.notify r,
              window := StreamRecord.window r, lateRun := StreamRecord.lateRun r, lateMark := late, phase := none,
              train := none, player := some p, context := none } ∧
          primedPlayer n r =
            { state := .priming, stream := some n, tag := StreamRecord.tag r, table := StreamRecord.table r,
              steps := fieldAt r 14 2, repeats := fieldAt r 5 1, lines := StreamRecord.lines r,
              rest := StreamRecord.levels r, buffer := [], cursor := 0, begun := 1, fetched := false, applied := 0,
              completed := 0, nextEnd := false, request := .pending, asked := min 16 (fieldAt r 14 2) } ∧
          ∀ q, t.dev.player q = if q = p then primedPlayer n r else s.dev.player q)) ∧
    (∀ p, classify s.dev.tb.now t₀ = .behind p → StreamRecord.window r < p → StreamRecord.lateRun r = false →
      ∃ t, exec (.pattern n) s = .next t ∧ t.pending = s.pending ∧
        t.dev = { s.dev with streams := t.dev.streams, holding := t.dev.holding, queues := t.dev.queues } ∧
        OnlyStream n x s.dev t.dev ∧
        Posted x.target (plainCompletion (.stream n) 0x06 .lateSkipped (StreamRecord.tag r) t₀
          (lowestLine (StreamRecord.lines r)) x.head (sat32 p) 0) s.dev t.dev)

/-- CAPTURE opens a context at its line and is consumed, with an end entry but for NO_END; ARM begins a wait and stays
at its stream's head, WAITING with reason ARM, with a deadline entry but for NO_END. A timed one that may not take its
entry waits for SPACE. -/
def Obligations.CaptureAndArmBegin : Prop :=
  ∀ (s : State) (n : StreamId) (r : Record) (l : LineId), StreamRecord.lines r = lineBit l →
    (s.dev.line l).mode = .input →
    let t₀ := resolveTime s.dev n r
    let waits (c : Instr) := ∃ t, exec c s = .next t ∧ t.pending = s.pending ∧
      t.dev = { s.dev with streams := t.dev.streams } ∧
      OnlyStream n { s.dev.stream n with state := .waiting, reason := .space } s.dev t.dev
    let opens (t : State) := ∀ k, t.dev.line k =
      if k = l then { s.dev.line l with capture := some (openedCapture n r) } else s.dev.line k
    let armed : Stream := { s.dev.stream n with armWait := some (begunArm r), state := .waiting, reason := .arm }
    (Admits s n .capture r → (s.dev.line l).owner = some n → (s.dev.line l).capture = none →
      (StreamRecord.noEnd r = true → ∃ t, exec (.capture n) s = .next t ∧ t.pending = s.pending ∧ opens t ∧
        t.dev = { s.dev with lines := t.dev.lines, streams := t.dev.streams } ∧
        OnlyStream n ((s.dev.stream n).consumed s.dev.threshold) s.dev t.dev) ∧
      (∀ due, StreamRecord.noEnd r = false → DueOfContext s.dev.tb.now t₀ due →
        (MayTakeEntry s.dev n → ∃ t, exec (.capture n) s = .next t ∧ t.pending = s.pending ∧ opens t ∧
          Inserted (contextEntry .captureEnd n r (s.dev.stream n).prio due (.capture l)) n
            ((s.dev.stream n).consumedAt s.dev.threshold r t₀) { s.dev with lines := t.dev.lines } t.dev) ∧
        (¬MayTakeEntry s.dev n → waits (.capture n)))) ∧
    (∀ kind due x, contextEntry kind n r (s.dev.stream n).prio due x =
      { kind := kind, stream := n, prio := (s.dev.stream n).prio, tag := StreamRecord.tag r, due := due,
        lines := StreamRecord.lines r, levels := 0, notify := StreamRecord.notify r, window := 0, lateRun := false,
        lateMark := false, phase := none, train := none, player := none, context := some x }) ∧
    (∀ edges, edges = (if fieldAt r 14 2 = 1 then EdgeSelect.rising else if fieldAt r 14 2 = 2 then .falling else .both) →
      openedCapture n r = { stream := n, tag := StreamRecord.tag r, edges := edges, limit := fieldAt r 24 4, captured := 0,
                            missed := 0, notify := StreamRecord.notify r } ∧
      begunArm r = { line := l, tag := StreamRecord.tag r, edges := edges, notify := StreamRecord.notify r,
                     haltOnTimeout := StreamRecord.timeoutHalt r }) ∧
    (Admits s n .arm r →
      (StreamRecord.noEnd r = true → ∃ t, exec (.arm n) s = .next t ∧ t.pending = s.pending ∧
        t.dev = { s.dev with streams := t.dev.streams } ∧ OnlyStream n armed s.dev t.dev) ∧
      (∀ due, StreamRecord.noEnd r = false → DueOfContext s.dev.tb.now t₀ due →
        (MayTakeEntry s.dev n → ∃ t, exec (.arm n) s = .next t ∧ t.pending = s.pending ∧
          Inserted (contextEntry .armDeadline n r (s.dev.stream n).prio due .armWait) n armed s.dev t.dev) ∧
        (¬MayTakeEntry s.dev n → waits (.arm n))))

/-- CLAIM makes its stream the owner of every line of the mask, when no other stream owns one, and its DONE says which
lines were newly taken and which already owned. RELEASE of owned lines ends the captures on them; it is consumed with
its lines given up when no output entry of the stream meets them, and waits with reason RELEASE otherwise.
RELEASE_COMPLETE ends that wait at the report of the last such entry to be freed; the reports made before it, none of
which concerns another waiting stream, have been tested, and those after it stand. -/
def Obligations.OwnershipMoves : Prop :=
  let meeting (d : Device) (n : StreamId) (m : Mask) := (d.calendar.filter (fun e => e.stream == n &&
    (e.kind == .set || e.kind == .pulse || e.kind == .train || e.kind == .patternStep) && e.lines &&& m != 0)).length
  ∀ (s : State) (n : StreamId) (r : Record),
    let m := StreamRecord.lines r
    let held (l : LineId) := inMask m l && (s.dev.line l).capture.isSome
    (∀ already : Mask, Admits s n .claim r →
      (∀ l, inMask m l = true → (s.dev.line l).owner = none ∨ (s.dev.line l).owner = some n) →
      (∀ l, inMask already l = (inMask m l && (s.dev.line l).owner == some n)) →
      let x := (s.dev.stream n).consumed s.dev.threshold
      ∃ t, exec (.claim n) s = .next t ∧ t.pending = s.pending ∧
        t.dev = { s.dev with
          lines := t.dev.lines, streams := t.dev.streams, holding := t.dev.holding, queues := t.dev.queues } ∧
        (∀ l, t.dev.line l = if inMask m l then { s.dev.line l with owner := some n } else s.dev.line l) ∧
        OnlyStream n x s.dev t.dev ∧
        PostedIf (StreamRecord.notify r) x.target
          (plainCompletion (.stream n) 0x0B .done (StreamRecord.tag r) s.dev.tb.now (lowestLine m) x.head
            (m &&& ~~~already) already) s.dev t.dev) ∧
    (Admits s n .release r → (∀ l, inMask m l = true → (s.dev.line l).owner = some n) →
      let y : Stream := { s.dev.stream n with found := meeting s.dev n m, ended := (allLines.filter held).length }
      let passes := meeting s.dev n m == 0
      let endOf (l : LineId) (e : Entry) := e.kind == .captureEnd && e.context == some (.capture l)
      ∃ t, exec (.release n) s = .next t ∧ t.pending = s.pending ∧
        t.dev = { s.dev with
          calendar := s.dev.calendar.filter (fun e => !(allLines.any (fun l => held l && endOf l e))),
          reports := s.dev.reports ++
            (allLines.filter held).flatMap (fun l => (s.dev.calendar.filter (endOf l)).map reportOf),
          lines := t.dev.lines, streams := t.dev.streams, holding := t.dev.holding, queues := t.dev.queues } ∧
        (∀ l, t.dev.line l = if inMask m l
          then { s.dev.line l with capture := none, owner := if passes then none else (s.dev.line l).owner }
          else s.dev.line l) ∧
        OnlyStream n (if passes then { y.consumed s.dev.threshold with state := .running, reason := .noWait }
          else { y with state := .waiting, reason := .release }) s.dev t.dev ∧
        PostedAll
          ((allLines.filter held).flatMap (fun l => match (s.dev.line l).capture with
            | some c => if c.notify then [((s.dev.stream c.stream).target,
                plainCompletion (.stream c.stream) 0x07 .captureDone c.tag s.dev.tb.now l.val
                  (s.dev.stream c.stream).head (sat32 c.captured) (sat32 c.missed))] else []
            | none => []) ++
          (if passes && StreamRecord.notify r then [(y.target, plainCompletion (.stream n) 0x0C .done
            (StreamRecord.tag r) s.dev.tb.now (lowestLine m) (y.consumed s.dev.threshold).head 0 (sat32 y.ended))]
           else [])) s.dev t.dev) ∧
    (∀ (x : Report) (before after : List Report), SettledFor [.edge] s → (s.dev.stream n).state = .waiting →
      (s.dev.stream n).reason = .release → (s.dev.stream n).buffer.head? = some r → meeting s.dev n m = 0 →
      s.dev.reports = before ++ x :: after →
      let concerns (y : Report) := y.stream = n ∧
        (y.kind = .set ∨ y.kind = .pulse ∨ y.kind = .train ∨ y.kind = .patternStep) ∧ y.lines &&& m ≠ 0
      (∀ y ∈ before, y.stream = n ∨
        ((s.dev.stream y.stream).reason ≠ .barrier ∧ (s.dev.stream y.stream).reason ≠ .release)) →
      concerns x → (∀ y ∈ after, ¬concerns y) →
      let y := s.dev.stream n
      ∃ t, exec (.releaseComplete n) s = .next t ∧ t.pending = s.pending ∧
        t.dev = { s.dev with
          reports := after, lines := t.dev.lines, streams := t.dev.streams, holding := t.dev.holding,
          queues := t.dev.queues } ∧
        (∀ l, t.dev.line l = if inMask m l && (s.dev.line l).owner == some n
          then { s.dev.line l with owner := none } else s.dev.line l) ∧
        OnlyStream n { y.consumed s.dev.threshold with state := .running, reason := .noWait } s.dev t.dev ∧
        PostedIf (StreamRecord.notify r) y.target
          (plainCompletion (.stream n) (StreamRecord.kind r) .done (StreamRecord.tag r) s.dev.tb.now (lowestLine m)
            (y.consumed s.dev.threshold).head (sat32 y.found) (sat32 y.ended)) s.dev t.dev)

/-- CANCEL: the entries it selects leave the calendar, but with FINISH a pulse or train in phase END stays, the train
with one pulse left; the captures it selects end; the rest levels of removed work that had driven its lines are driven
at once; players of removed patterns end; and its completions are posted in the order of R64, a CANCELLED with the
pulses driven and missed of a train, 1 for a pulse whose START had been driven, and the steps applied and passes
completed of a pattern. A request that is pending takes no slot before it (the model's choice, log 32), and an ended
player with a pending request is FREE. The fields of an ended player that the spec leaves open take the model's values
(the model's choice, log 23). -/
def Obligations.CancelEndsSelectedWork : Prop :=
  ∀ (s : State) (n : StreamId) (r : Record), AdmitsFor allButGrant s n .cancel r →
    let matched (tag : Tag) := tag &&& StreamRecord.short r == StreamRecord.tag r &&& StreamRecord.short r
    let selected (e : Entry) := e.stream == n && e.kind != .armDeadline && matched e.tag
    let ending (e : Entry) := (e.kind == .pulse || e.kind == .train) && e.phase.any (fun p => p.phase == .ending)
    let kept (e : Entry) := selected e && (StreamRecord.finish r && ending e)
    let removed := s.dev.calendar.filter (fun e => selected e && !kept e)
    let playing (e : Entry) := e.kind == .patternStep && e.player.any (fun p => (s.dev.player p).state == .playing)
    let ends (l : LineId) := (s.dev.line l).capture.any (fun c => c.stream == n && matched c.tag)
    let endOf (l : LineId) (e : Entry) := e.kind == .captureEnd && e.context == some (.capture l)
    let x := (s.dev.stream n).consumed s.dev.threshold
    let extras (e : Entry) : W32 × W32 :=
      match e.kind, e.train, e.player with
      | .train, some g, _ => (sat32 g.driven, sat32 g.missed)
      | .pulse, _, _ => (if ending e then 1 else 0, 0)
      | .patternStep, _, some p => (sat32 (s.dev.player p).applied, sat32 (s.dev.player p).completed)
      | _, _, _ => (0, 0)
    let say (kind : Byte) (status : Status) (tag : Tag) (line : Nat) (x1 x2 : W32) :=
      (x.target, plainCompletion (.stream n) kind status tag s.dev.tb.now line x.head x1 x2)
    ∃ t, exec (.cancel n) s = .next t ∧ t.pending = s.pending ∧
      t.dev = { s.dev with
        calendar := (((s.dev.calendar.filter (fun e => !(selected e && !kept e))).map (fun e =>
            if kept e then { e with train := e.train.map (fun g => { g with remaining := 1 }) } else e)).filter
          (fun e => !(allLines.any (fun l => ends l && endOf l e)))),
        reports := s.dev.reports ++ removed.map reportOf ++ (allLines.filter ends).flatMap (fun l =>
          (s.dev.calendar.filter (fun e => !(selected e && !kept e) && endOf l e)).map reportOf),
        lines := t.dev.lines, players := t.dev.players, streams := t.dev.streams, holding := t.dev.holding,
        queues := t.dev.queues } ∧
      OnlyStream n x s.dev t.dev ∧
      (∀ l, t.dev.line l = { s.dev.line l with
        out := (t.dev.line l).out, capture := if ends l then none else (s.dev.line l).capture }) ∧
      (∀ l, ((s.dev.line l).mode ≠ .output ∨ ∀ e ∈ removed, (inMask e.lines l && (ending e || playing e)) = false) →
        (t.dev.line l).out = (s.dev.line l).out) ∧
      (∀ l before e after, (s.dev.line l).mode = .output → removed = before ++ e :: after → inMask e.lines l = true →
        (∀ y ∈ after, (inMask y.lines l && (ending y || playing y)) = false) →
        (ending e = true → (t.dev.line l).out = !inMask e.levels l) ∧
        (playing e = true → (t.dev.line l).out = inMask e.levels l)) ∧
      (∀ p, t.dev.player p = if removed.any (fun e => e.kind == .patternStep && e.player == some p)
        then endedPlayer (s.dev.player p) else s.dev.player p) ∧
      PostedAll
        (((removed.filter (fun e => e.kind != .captureEnd && (e.notify || e.lateMark || e.kind == .marker))).map
            (fun e => say (entryKindCode e.kind) .cancelled e.tag (lowestLine e.lines) (extras e).1 (extras e).2)) ++
          (allLines.filter ends).flatMap (fun l => match (s.dev.line l).capture with
            | some c => if c.notify then [say 0x07 .captureDone c.tag l.val (sat32 c.captured) (sat32 c.missed)] else []
            | none => []) ++
          (if StreamRecord.notify r then [say 0x0D .cancelDone (StreamRecord.tag r) 0
            (sat32 ((removed.filter (fun e => e.kind != .captureEnd)).length + (allLines.filter ends).length))
            (sat32 (s.dev.calendar.filter kept).length)] else [])) s.dev t.dev

/-! ## Streams (chapter 7) -/

/-- START, STOP and STREAM_STOPPED: a START sets an IDLE configured stream running from head and tail 0 and a HALTED one
from where it stands; a STOP ends the stream's work, drives its OUTPUT lines to their safe levels and gives its lines up
as one event, and passes to IDLE with STREAM_STOPPED at once when no read is in flight, and by STREAM_STOPPED otherwise;
any other START or STOP is ignored. A request that is pending takes no slot before a STOP, which withdraws it (the
model's choice, log 32), and a HALTED stream without a read is IDLE after its STOP, so that a START then starts it
(R133; R134 says otherwise: the model's choice, log 34). The count and lines of a STOP are held at 0 outside STOPPING,
and the fields of an ended player that the spec leaves open at those of the model (the model's choice, log 23). -/
def Obligations.StreamsStartAndStop : Prop :=
  ∀ (s : State) (n : StreamId),
    let y := s.dev.stream n
    let quieted (work : Nat) (lines : Mask) (t : State) :=
      OnlyStream n { y with state := .idle, reason := .noWait, head := 0, tail := 0, buffer := [],
                            request := withdraw y.request, armWait := none, stopCount := 0, stopLines := 0 }
        s.dev t.dev ∧
      Posted y.target (plainCompletion (.stream n) 0 .streamStopped 0 s.dev.tb.now 0 y.head (sat32 work) lines)
        s.dev t.dev
    (Settled s → s.dev.ctl.mode = .on → y.state = .idle → y.configured = true →
      ∃ t, exec (.start n) s = .next t ∧ t.pending = s.pending ∧ t.dev = { s.dev with streams := t.dev.streams } ∧
        OnlyStream n { y with state := .running, reason := .noWait, head := 0, tail := 0, buffer := [],
                              anchor := s.dev.tb.now } s.dev t.dev) ∧
    (Settled s → s.dev.ctl.mode = .on → y.state = .halted →
      let z : Stream := { y with state := .running, reason := .noWait, buffer := [] }
      ∃ t, exec (.start n) s = .next t ∧ t.pending = s.pending ∧ t.dev = { s.dev with streams := t.dev.streams } ∧
        OnlyStream n (z.refetched s.dev.threshold) s.dev t.dev) ∧
    (Settled s → (s.dev.ctl.mode ≠ .on ∨ y.state = .running ∨ y.state = .waiting ∨ y.state = .stopping ∨
      (y.state = .idle ∧ y.configured = false)) → Ignored (.start n) s) ∧
    (∀ owned : Mask, SettledFor allButGrant s → (y.state = .running ∨ y.state = .waiting ∨ y.state = .halted) →
      (∀ l, inMask owned l = ((s.dev.line l).owner == some n)) →
      let captures (l : LineId) := (s.dev.line l).capture.any (fun c => c.stream == n)
      let work := (s.dev.calendar.filter (fun e => e.stream == n && (e.kind != .captureEnd && e.kind != .armDeadline))
        ).length + (allLines.filter captures).length + (if y.armWait.isSome then 1 else 0)
      ∃ t, exec (.stop n) s = .next t ∧ t.pending = s.pending ∧
        t.dev = { s.dev with
          calendar := s.dev.calendar.filter (fun e => e.stream != n),
          reports := s.dev.reports ++ (s.dev.calendar.filter (fun e => e.stream == n)).map reportOf,
          lines := t.dev.lines, players := t.dev.players, streams := t.dev.streams, holding := t.dev.holding,
          queues := t.dev.queues } ∧
        (∀ l, t.dev.line l =
          let x := s.dev.line l
          { x with capture := if captures l then none else x.capture,
                   owner := if x.owner = some n then none else x.owner,
                   out := if x.owner = some n ∧ x.mode = .output then x.safe else x.out }) ∧
        (∀ p, t.dev.player p =
          let pl := s.dev.player p
          if (pl.state = .priming ∨ pl.state = .playing) ∧ pl.stream = some n then endedPlayer pl else pl) ∧
        ((∀ k, y.request ≠ .inFlight k) → quieted work owned t) ∧
        (∀ k, y.request = .inFlight k → t.dev.holding = s.dev.holding ∧ t.dev.queues = s.dev.queues ∧
          OnlyStream n { y with state := .stopping, reason := .noWait, buffer := [], armWait := none, stopCount := work,
                                stopLines := owned } s.dev t.dev)) ∧
    (SettledFor allButGrant s → (y.state = .idle ∨ y.state = .stopping) → Ignored (.stop n) s) ∧
    (SettledFor beforeStopped s → y.state = .stopping →
      ((∀ k, y.request ≠ .inFlight k) → ∃ t, exec (.streamStopped n) s = .next t ∧ t.pending = s.pending ∧
        t.dev = { s.dev with streams := t.dev.streams, holding := t.dev.holding, queues := t.dev.queues } ∧
        OnlyStream n { y with state := .idle, reason := .noWait, head := 0, tail := 0, buffer := [], stopCount := 0,
                              stopLines := 0 } s.dev t.dev ∧
        Posted y.target (plainCompletion (.stream n) 0 .streamStopped 0 s.dev.tb.now 0 y.head (sat32 y.stopCount)
          y.stopLines) s.dev t.dev) ∧
      (∀ k, y.request = .inFlight k → exec (.streamStopped n) s = .next s))

/-- The writes of QUEUE_INDEX. TAIL_WRITE: a tail in range that takes back no fetched record is written, a pending
request beyond it withdrawn, and the fetch test made; any other halts the stream with BAD_TAIL and the index.
HEAD_WRITE and CONTROL_RING_TAIL_WRITE: the index is written when it passes its check and is ignored otherwise.
INVALID_SELECTOR is ignored. -/
def Obligations.RingIndexWrites : Prop :=
  ∀ s : State, Settled s →
    (∀ (n : StreamId) (index : BitVec 12),
      let y := s.dev.stream n
      let i := index.toNat
      let fits := i < y.size ∧ fetchedCount y ≤ ringSpan i y.head y.size
      let z : Stream := { y with tail := i, request := if ringSpan i y.head y.size = fetchedCount y
                                                       then withdraw y.request else y.request }
      ((y.state = .idle ∨ y.state = .stopping) → Ignored (.tailWrite n index) s) ∧
      ((y.state = .running ∨ y.state = .waiting ∨ y.state = .halted) →
        (fits → ∃ t, exec (.tailWrite n index) s = .next t ∧ t.pending = s.pending ∧
          t.dev = { s.dev with streams := t.dev.streams } ∧
          OnlyStream n (z.refetched s.dev.threshold) s.dev t.dev) ∧
        (¬fits → ∃ t, exec (.tailWrite n index) s = .next t ∧ t.pending = s.pending ∧
          HaltedWith n (plainCompletion (.stream n) 0 .streamHalted 0 s.dev.tb.now 0 y.head 8 (BitVec.ofNat 32 i))
            s.dev t.dev))) ∧
    (∀ (q : CqId) (index : BitVec 12),
      let c := s.dev.queue q
      let i := index.toNat
      let ok := c.state = .active ∧ i < c.size ∧ ringSpan i c.head c.size ≤ ringSpan c.tail c.head c.size
      (ok → ∃ t, exec (.headWrite q index) s = .next t ∧ t.pending = s.pending ∧
        t.dev = { s.dev with queues := t.dev.queues } ∧
        ∀ k, t.dev.queue k = if k = q then { c with head := i } else s.dev.queue k) ∧
      (¬ok → Ignored (.headWrite q index) s)) ∧
    (∀ index : BitVec 12,
      let c := s.dev.ctl
      let i := index.toNat
      let ok := c.mode = .on ∧ i < c.size ∧ controlFetched c ≤ ringSpan i c.head c.size
      let z : Control := { c with tail := i, request := if ringSpan i c.head c.size = controlFetched c
                                                        then withdraw c.request else c.request }
      let refetched : Control :=
        if z.request = .idle ∧ z.buffer.length < 4 ∧ controlFetched z < ringSpan z.tail z.head z.size then
          { z with request := .pending } else z
      (ok → exec (.controlRingTailWrite index) s = .next { s with dev := { s.dev with ctl := refetched } }) ∧
      (¬ok → Ignored (.controlRingTailWrite index) s)) ∧
    (∀ word : W32, (word &&& 0xFFE0F000#32 ≠ 0 ∨ (8 < selectorOf word ∧ selectorOf word < 16) ∨ 19 < selectorOf word) →
      Ignored (.invalidSelector word) s)

/-! ## The host port's reads (10.3) -/

/-- READ_GRANT: with a slot free the arbiter grants the bootstrap, then the player of lowest number, then the control
ring, then the stream of highest priority, round robin among equals; the read covers what R105, R122, R152 or R159 says
and takes the read timeout. A bootstrap address that is no multiple of 64 fails the boot. The identities of reads are
counted (the model's choice, log 8). -/
def Obligations.ReadGrantServesInOrder : Prop :=
  ∀ s : State, SettledFor beforeGrant s →
    let d := s.dev
    let read (i : Issuer) (addr : Addr) (length timeout : Nat) : Read :=
      { identity := d.nextRead, issuer := i, addr := addr, length := length, timeout := timeout, elapsed := 0,
        orphaned := false }
    let noPlayer := ∀ p, (d.player p).request ≠ .pending
    (8 ≤ d.reads.length → exec .readGrant s = .next s) ∧
    (d.reads.length < 8 → d.ctl.boot = .pending → d.host.bootAddr.toNat % 64 = 0 →
      exec .readGrant s = .next { s with dev := { d with
        ctl := { d.ctl with boot := .inFlight 1 }, reads := d.reads ++ [read .bootstrap d.host.bootAddr 64 65535],
        nextRead := d.nextRead + 1 } }) ∧
    (d.reads.length < 8 → d.ctl.boot = .pending → d.host.bootAddr.toNat % 64 ≠ 0 →
      exec .readGrant s = .next { s with dev := { d with
        ctl := { d.ctl with mode := .failed, boot := .idle },
        host := { d.host with event := d.host.event ||| 0x200#32 } } }) ∧
    (d.reads.length < 8 → d.ctl.boot ≠ .pending → ∀ p, (d.player p).request = .pending →
      (∀ q, q < p → (d.player q).request ≠ .pending) →
      let pl := d.player p
      ∃ t, exec .readGrant s = .next t ∧ t.pending = s.pending ∧
        t.dev = { d with
          players := t.dev.players, nextRead := d.nextRead + 1,
          reads := d.reads ++ [read (.player p) (pl.table + BitVec.ofNat 64 (8 * pl.cursor)) (8 * pl.asked)
            d.ctl.timeout] } ∧
        ∀ q, t.dev.player q = if q = p then { pl with request := .inFlight pl.asked } else d.player q) ∧
    (d.reads.length < 8 → d.ctl.boot ≠ .pending → noPlayer → d.ctl.request = .pending →
      let c := d.ctl
      let index := (c.head + c.buffer.length) % c.size
      let k := min (4 - c.buffer.length) (min (ringSpan c.tail c.head c.size - c.buffer.length) (c.size - index))
      exec .readGrant s = .next { s with dev := { d with
        ctl := { c with request := .inFlight k }, nextRead := d.nextRead + 1,
        reads := d.reads ++ [read .control (c.base + BitVec.ofNat 64 (32 * index)) (32 * k) c.timeout] } }) ∧
    (d.reads.length < 8 → d.ctl.boot ≠ .pending → noPlayer → d.ctl.request ≠ .pending →
      (∀ n, (d.stream n).request = .pending →
        (∀ m, (d.stream m).request = .pending → (d.stream m).prio ≤ (d.stream n).prio) →
        (let turn := d.roundRobin.get (Fin.ofNat 8 (d.stream n).prio)
         ∀ m, (d.stream m).request = .pending → (d.stream m).prio = (d.stream n).prio →
          placeInCycle turn n ≤ placeInCycle turn m) →
        let y := d.stream n
        let index := (y.head + y.buffer.length) % y.size
        let k := min (4 - y.buffer.length) (min (ringSpan y.tail y.head y.size - y.buffer.length) (y.size - index))
        ∃ t, exec .readGrant s = .next t ∧ t.pending = s.pending ∧
          t.dev = { d with
            streams := t.dev.streams, roundRobin := t.dev.roundRobin, nextRead := d.nextRead + 1,
            reads := d.reads ++ [read (.stream n) (y.base + BitVec.ofNat 64 (32 * index)) (32 * k) d.ctl.timeout] } ∧
          OnlyStream n { y with request := .inFlight k } d t.dev ∧
          ∀ j, t.dev.roundRobin.get j = if j = Fin.ofNat 8 y.prio then some n else d.roundRobin.get j) ∧
      ((∀ n, (d.stream n).request ≠ .pending) → exec .readGrant s = .next s))

/-- READ_DATA_RETURN, READ_BUS_ERROR and READ_TIMEOUT of a ring's read. The slot is freed; a stream's records enter its
prefetch buffer and it makes its fetch test, or it halts with FETCH_ERROR, the first index of the read and the cause,
unless the read was to be discarded; the control ring takes its records, or one failed place for each, and makes its
fetch test; an orphaned read is only freed. That the fetch test comes before the records can be admitted or taken is the
model's choice (log 38). -/
def Obligations.RingReadsEnd : Prop :=
  ∀ (s : State) (i : Nat) (x : Read) (data : List Byte), Settled s →
    s.dev.reads.find? (fun y => y.identity == i) = some x → data.length = x.length →
    let d := { s.dev with reads := s.dev.reads.filter (fun y => y.identity != i) }
    let ends := [(Instr.readDataReturn i data, 0), (.readBusError i, 1), (.readTimeout i, 2)]
    let refetched (z : Stream) : Stream := z.refetched d.threshold
    (x.orphaned = true → ∀ c ∈ ends, exec c.1 s = .next { s with dev := d }) ∧
    (∀ n, x.orphaned = false → x.issuer = .stream n →
      let y := d.stream n
      let only (c : Instr) (z : Stream) := ∃ t, exec c s = .next t ∧ t.pending = s.pending ∧
        t.dev = { d with streams := t.dev.streams } ∧ OnlyStream n z d t.dev
      (y.discard = true → ∀ c ∈ ends, only c.1 (refetched { y with request := .idle, discard := false })) ∧
      (y.discard = false → (y.state = .idle ∨ y.state = .halted ∨ y.state = .stopping) → ∀ c ∈ ends,
        only c.1 { y with request := .idle }) ∧
      (∀ k, y.discard = false → (y.state = .running ∨ y.state = .waiting) → y.request = .inFlight k →
        only (.readDataReturn i data) (refetched { y with buffer := y.buffer ++ recordsOf data k, request := .idle }) ∧
        ∀ c ∈ ends, c.2 ≠ 0 → ∃ t, exec c.1 s = .next t ∧ t.pending = s.pending ∧
          HaltedWith n (plainCompletion (.stream n) 0 .fetchError 0 d.tb.now 0 y.head
              (BitVec.ofNat 32 ((y.head + y.buffer.length) % y.size)) (BitVec.ofNat 32 c.2))
            (d.modStream n (fun z => { z with request := .idle })) t.dev)) ∧
    (x.orphaned = false → x.issuer = .control →
      let c := d.ctl
      (c.mode ≠ .on → ∀ e ∈ ends, exec e.1 s = .next { s with dev := { d with ctl := { c with request := .idle } } }) ∧
      (∀ k, c.mode = .on → c.request = .inFlight k → ∀ e ∈ ends,
        let z : Control := { c with request := .idle, buffer := c.buffer ++
          if e.2 = 0 then (recordsOf data k).map .record else List.replicate k (.failedPlace e.2) }
        let refetched : Control :=
          if z.buffer.length < 4 ∧ z.buffer.length < ringSpan z.tail z.head z.size then { z with request := .pending }
          else z
        exec e.1 s = .next { s with dev := { d with ctl := refetched } }))

/-- The ends of the bootstrap read and of a player's read, and ends that fit no read. LOADING becomes ON with control
ring and CQ0 from a block that passes the checks of 9.2, or FAILED. A player takes its steps and may ask for more: a
step with END, or of index N − 1, ends the pass with the last-of-pass mark, the steps behind it are discarded, and the
next pass begins at step 0 or, with every pass begun, fetching is complete (R105); a bus error, a timeout or an invalid
step ends its pattern with its rest levels and FETCH_ERROR, posted before the freeing report is tested (the model's
choice, log 30), and a RETIRING player becomes FREE. Data of another length than was asked is no response and changes
nothing (DEDUCED, log 10). A FREE player's fields that the spec leaves open take the model's values (the model's choice,
log 23). -/
def Obligations.BootstrapAndPlayerReadsEnd : Prop :=
  ∀ (s : State) (i : Nat) (data : List Byte), Settled s →
    let ends := [(Instr.readDataReturn i data, 0), (.readBusError i, 1), (.readTimeout i, 2)]
    (s.dev.reads.find? (fun y => y.identity == i) = none → ∀ c ∈ ends, exec c.1 s = .next s) ∧
    (∀ x, s.dev.reads.find? (fun y => y.identity == i) = some x → data.length ≠ x.length →
      exec (.readDataReturn i data) s = .next s) ∧
    (∀ x, s.dev.reads.find? (fun y => y.identity == i) = some x → data.length = x.length → x.orphaned = false →
      let d := { s.dev with reads := s.dev.reads.filter (fun y => y.identity != i) }
      let at' (o n : Nat) := bytesAt data o n
      let failed : Device := { d with ctl := { d.ctl with mode := .failed, boot := .idle },
                                      host := { d.host with event := d.host.event ||| 0x200#32 } }
      (x.issuer = .bootstrap → d.ctl.mode ≠ .loading → ∀ c ∈ ends,
        exec c.1 s = .next { s with dev := { d with ctl := { d.ctl with boot := .idle } } }) ∧
      (x.issuer = .bootstrap → d.ctl.mode = .loading →
        (∀ c ∈ ends, c.2 ≠ 0 ∨ ¬BootBlockValid data → exec c.1 s = .next { s with dev := failed }) ∧
        (BootBlockValid data → ∃ t, exec (.readDataReturn i data) s = .next t ∧ t.pending = s.pending ∧
          t.dev = { d with
            ctl := { mode := .on, base := BitVec.ofNat 64 (at' 8 8), size := at' 16 2, head := 0, tail := 0, buffer := [],
                     request := .idle, query := none, timeout := at' 20 2, boot := .idle },
            host := { d.host with event := d.host.event ||| 0x100#32 }, queues := t.dev.queues } ∧
          ∀ q, t.dev.queue q = if q = 0 then
            { state := .active, base := BitVec.ofNat 64 (at' 24 8), size := at' 32 2, tail := 0, head := 0, phase := true,
              lost := 0, countThreshold := at' 34 1, timeThreshold := at' 36 2, unsignalled := 0, timer := none }
            else d.queue q)) ∧
      (∀ p, x.issuer = .player p →
        let pl : Player := d.player p
        let only (t : State) (z : Player) : Prop := t.pending = s.pending ∧ ∀ q, t.dev.player q = if q = p then z else d.player q
        (pl.state = .retiring → ∀ c ∈ ends, ∃ t, exec c.1 s = .next t ∧ only t Player.reset ∧
          t.dev = { d with players := t.dev.players }) ∧
        (∀ k, (pl.state = .priming ∨ pl.state = .playing) → pl.request = .inFlight k →
          let ok : Prop := ∀ j < k, at' (8 * j) 3 ≠ 0 ∧ at' (8 * j + 4) 1 < 2 ∧ at' (8 * j + 5) 3 = 0
          let step (mark : Bool) (j : Nat) : Step := ⟨at' (8 * j) 3, BitVec.ofNat 8 (at' (8 * j + 3) 1), mark⟩
          let endsPass (j : Nat) : Prop := j < k ∧ (at' (8 * j + 4) 1 % 2 = 1 ∨ pl.cursor + j = pl.steps - 1 ∧ 0 < pl.steps)
          let takes (z : Player) : Prop := ∃ t, exec (.readDataReturn i data) s = .next t ∧
            t.dev = { d with players := t.dev.players } ∧
            only t (if z.fetched = false ∧ z.buffer.length ≤ 8
              then { z with request := .pending, asked := min 8 (z.steps - z.cursor) } else z)
          (ok → (∀ j, ¬endsPass j) → takes { pl with
            buffer := pl.buffer ++ (List.range k).map (step false), cursor := pl.cursor + k, request := .idle }) ∧
          (ok → ∀ j, endsPass j → (∀ m < j, ¬endsPass m) →
            let buffer := pl.buffer ++ (List.range j).map (step false) ++ [step true j]
            (pl.begun < pl.repeats → takes { pl with
              buffer := buffer, begun := pl.begun + 1, cursor := 0, request := .idle }) ∧
            (pl.repeats ≤ pl.begun → takes { pl with
              buffer := buffer, fetched := true, cursor := pl.cursor + j + 1, request := .idle })) ∧
          (∀ c ∈ ends, c.2 ≠ 0 ∨ ¬ok → ∀ n, pl.stream = some n →
            ∃ t, exec c.1 s = .next t ∧ only t Player.reset ∧
              t.dev = { d with
                calendar := d.calendar.filter (fun e => !isEntryOfPlayer p e),
                reports := d.reports ++ (d.calendar.filter (isEntryOfPlayer p)).map reportOf,
                lines := t.dev.lines, players := t.dev.players, holding := t.dev.holding, queues := t.dev.queues } ∧
              Driven (if pl.state = .playing then pl.lines else 0) pl.rest d t.dev ∧
              Posted (d.stream n).target (plainCompletion (.stream n) 0x06 .fetchError pl.tag d.tb.now
                (lowestLine pl.lines) (d.stream n).head (sat32 pl.applied)
                (if c.2 = 0 then 3 else BitVec.ofNat 32 c.2)) d t.dev))))

/-! ## Completion queues and the write path (chapter 8, 10.4) -/

/-- COMPLETION_WRITE_ISSUE: the writer writes the oldest eligible record to the slot at its queue's device tail, an
OVERFLOW first for one with a prefix; it does nothing while a write is outstanding or no record is eligible.
WRITE_SUCCESS: the device tail moves on, the phase changes at the wrap, and the record is counted: attention is raised
at the count threshold, and the timer starts with the first. The identities of writes are counted (the model's choice,
log 8). -/
def Obligations.WriterWritesOldestEligible : Prop :=
  ∀ s : State,
    let d := s.dev
    let open' (h : Held) := (d.queue h.queue).state = .active ∧
      ((d.queue h.queue).tail + 1) % (d.queue h.queue).size ≠ (d.queue h.queue).head
    let write (q : CqId) (c : Completion) : Write :=
      { identity := d.nextWrite, writer := .completion, addr := (d.queue q).base + BitVec.ofNat 64 (32 * (d.queue q).tail),
        data := completionBytes (d.queue q).phase c, timeout := d.ctl.timeout, elapsed := 0, orphaned := false }
    (SettledFor beforeWrite s → (d.outstanding ≠ none ∨ ∀ h ∈ d.holding, ¬open' h) →
      exec .completionWriteIssue s = .next s) ∧
    (∀ front h rest, SettledFor beforeWrite s → d.outstanding = none → d.holding = front ++ h :: rest →
      (∀ f ∈ front, ¬open' f) → open' h →
      (h.overflow = none → exec .completionWriteIssue s = .next { s with dev := { d with
        holding := front ++ rest, writes := d.writes ++ [write h.queue h.completion], nextWrite := d.nextWrite + 1,
        outstanding := some { identity := d.nextWrite, queue := h.queue, overflow := none } } }) ∧
      (∀ count time, h.overflow = some (count, time) → exec .completionWriteIssue s = .next { s with dev := { d with
        holding := front ++ { h with overflow := none } :: rest,
        writes := d.writes ++ [write h.queue (plainCompletion .device 0 .overflow 0 time 0 0 count 0)],
        nextWrite := d.nextWrite + 1,
        outstanding := some { identity := d.nextWrite, queue := h.queue, overflow := some count } } })) ∧
    (∀ i w o, Settled s → d.writes.find? (fun y => y.identity == i) = some w → w.writer = .completion →
      w.orphaned = false → d.outstanding = some o →
      let q := o.queue
      let c := d.queue q
      let u := min 255 (c.unsignalled + 1)
      let y : Queue := { c with tail := (c.tail + 1) % c.size, unsignalled := u,
                                phase := if (c.tail + 1) % c.size = 0 then !c.phase else c.phase }
      let after (z : Queue) (event : W32) := ∃ t, exec (.writeSuccess i) s = .next t ∧ t.pending = s.pending ∧
        t.dev = { d with
          writes := d.writes.filter (fun y => y.identity != i), outstanding := none, queues := t.dev.queues,
          host := { d.host with event := event } } ∧
        ∀ k, t.dev.queue k = if k = q then z else d.queue k
      (attnSet d q = true → after y d.host.event) ∧
      (attnSet d q = false → c.countThreshold ≤ u →
        after { y with unsignalled := 0, timer := none } (d.host.event ||| attnBit q)) ∧
      (attnSet d q = false → u < c.countThreshold →
        after (if c.unsignalled = 0 ∧ c.timeThreshold ≠ 0 then { y with timer := some 0 } else y) d.host.event))

/-- WRITE_BUS_ERROR and WRITE_TIMEOUT of a completion write: its queue is FAULTED with CQn_FAULT, its lost count rises
by the failed record, or by the OVERFLOW's count, and by each record of it held, which are discarded; attention is raised
for what was written. A failed CAPTURE_EDGE counts one (DEDUCED, log 13). A write of before a soft reset, and a response
to no write, change no queue. -/
def Obligations.WriteErrorFaultsQueue : Prop :=
  ∀ (s : State) (i : Nat), Settled s →
    let d := s.dev
    let rest := d.writes.filter (fun y => y.identity != i)
    (d.writes.find? (fun y => y.identity == i) = none →
      exec (.writeSuccess i) s = .next s ∧ exec (.writeBusError i) s = .next s ∧ exec (.writeTimeout i) s = .next s) ∧
    (∀ w, d.writes.find? (fun y => y.identity == i) = some w → w.orphaned = true →
      exec (.writeTimeout i) s = .next { s with dev := { d with writes := rest } } ∧
      (w.writer = .completion →
        exec (.writeSuccess i) s = .next { s with dev := { d with writes := rest } } ∧
        exec (.writeBusError i) s = .next { s with dev := { d with writes := rest } })) ∧
    (∀ w o, d.writes.find? (fun y => y.identity == i) = some w → w.writer = .completion → w.orphaned = false →
      d.outstanding = some o → ∀ e ∈ [Instr.writeBusError i, .writeTimeout i],
      let q := o.queue
      let c := d.queue q
      let own := match o.overflow with
        | some count => count.toNat
        | none => 1
      let losses := ((d.holding.filter (fun h => h.queue == q)).map (fun h =>
        (if h.completion.status = .captureEdge then 0 else 1) + match h.overflow with
          | some p => p.1.toNat
          | none => 0)).sum
      ∃ t, exec e s = .next t ∧ t.pending = s.pending ∧
        t.dev = { d with
          writes := rest, outstanding := none, holding := d.holding.filter (fun h => h.queue != q),
          queues := t.dev.queues, host := { d.host with event :=
            (d.host.event ||| if 0 < c.unsignalled then attnBit q else 0) ||| faultBit q } } ∧
        ∀ k, t.dev.queue k = if k = q
          then { c with state := .faulted, lost := min 0xFFFFFFFF (c.lost + (own + losses)), unsignalled := 0,
                        timer := none }
          else d.queue k)

/-- EVENT and EVENT_MASK. A write of EVENT clears its bits; for each attention bit among them the queue's unsignalled
records count again: attention at once at C or more of them, or the timer anew; ATTN_CLEAR is that write for one queue.
COALESCING_TIMEOUT raises attention. EVENT_MASK takes the bits that carry a field, and INT_N follows both. With no
unsignalled record a clear does nothing more, whatever C (DEDUCED, log 20). -/
def Obligations.EventsAndAttention : Prop :=
  ∀ s : State,
    let d := s.dev
    (∀ q, Settled s →
      (((d.queue q).timer.isSome = true ∧ 0 < (d.queue q).unsignalled) →
        ∃ t, exec (.coalescingTimeout q) s = .next t ∧ t.pending = s.pending ∧
          t.dev = { d with queues := t.dev.queues, host := { d.host with event := d.host.event ||| attnBit q } } ∧
          ∀ k, t.dev.queue k = if k = q then { d.queue q with unsignalled := 0, timer := none } else d.queue k) ∧
      (¬((d.queue q).timer.isSome = true ∧ 0 < (d.queue q).unsignalled) →
        exec (.coalescingTimeout q) s = .next s) ∧
      exec (.attnClear q) s = exec (.eventClear (attnBit q)) s) ∧
    (∀ w : W32, Settled s → ∃ t, exec (.eventClear w) s = .next t ∧ t.pending = s.pending ∧
      t.dev = { d with queues := t.dev.queues, host := { d.host with event := t.dev.host.event } } ∧
      (∀ i, 4 ≤ i → t.dev.host.event.getLsbD i = (d.host.event.getLsbD i && !w.getLsbD i)) ∧
      ∀ q, let c := d.queue q
        let again := w.getLsbD q.val && decide (0 < c.unsignalled) && decide (c.countThreshold ≤ c.unsignalled)
        attnSet t.dev q = (again || (attnSet d q && !w.getLsbD q.val)) ∧
        t.dev.queue q =
          if again then { c with unsignalled := 0, timer := none }
          else if w.getLsbD q.val = true ∧ 0 < c.unsignalled ∧ c.timeThreshold ≠ 0 then { c with timer := some 0 }
          else c) ∧
    (∀ w : W32, d.host.resetN = true →
      exec (.eventMaskWrite w) s =
        .next { s with dev := { d with host := { d.host with eventMask := w &&& 0x7FF#32 } } }) ∧
    (intAsserted d = true ↔ ∃ i, d.host.event.getLsbD i = true ∧ d.host.eventMask.getLsbD i = true)

/-- REGISTER_WRITE is the command that the word names at its offset: CONTROL, BOOT_ADDR, QUEUE_INDEX, STREAM_START and
STREAM_STOP, EVENT and EVENT_MASK; at any other offset, or not as an aligned 32-bit access, it changes nothing. A write
of STREAM_START or STREAM_STOP is a START or STOP of each stream whose bit is set, one after another (R166), in
ascending order of the streams (the model's choice, log 12), and with no such bit it changes nothing. Writes that are a
DISABLE or STOPs are those commands with requests pending too, and a write of BOOT_ADDR reaches a bootstrap request
before its grant (R152; the model's choice, log 32). -/
def Obligations.RegisterWriteIsItsCommand : Prop :=
  ∀ (s : State) (w : W32),
    let put (o : Nat) := exec (.registerWrite o 4 w) s
    let sel := selectorOf w
    (Settled s →
      (∀ o size, (size ≠ 4 ∨ o ∉ [0x04, 0x0C, 0x10, 0x14, 0x18, 0x1C, 0x24, 0x28]) →
        exec (.registerWrite o size w) s = .next s) ∧
      (w.getLsbD 1 = true → put 0x04 = exec .softReset s) ∧
      (w.getLsbD 1 = false → w.getLsbD 0 = true → put 0x04 = exec .enable s) ∧
      (queueIndexValid w = false → put 0x14 = exec (.invalidSelector w) s) ∧
      (queueIndexValid w = true → sel = 0 → put 0x14 = exec (.controlRingTailWrite (indexOf w)) s) ∧
      (∀ n : StreamId, queueIndexValid w = true → sel = n.val + 1 → put 0x14 = exec (.tailWrite n (indexOf w)) s) ∧
      (∀ q : CqId, queueIndexValid w = true → sel = 16 + q.val → put 0x14 = exec (.headWrite q (indexOf w)) s) ∧
      (∀ n : StreamId, w &&& 0xFF#32 = BitVec.ofNat 32 (2 ^ n.val) → put 0x18 = exec (.start n) s) ∧
      put 0x18 = runAll ((allStreams.filter (fun n => w.getLsbD n.val)).map .start) s ∧
      (w &&& 0xFF#32 = 0 → put 0x18 = .next s) ∧
      put 0x24 = exec (.eventClear w) s ∧ put 0x28 = exec (.eventMaskWrite w) s) ∧
    (SettledFor allButGrant s →
      put 0x0C = .next { s with dev := { s.dev with host := { s.dev.host with
        bootAddr := s.dev.host.bootAddr.extractLsb' 32 32 ++ w } } } ∧
      put 0x10 = .next { s with dev := { s.dev with host := { s.dev.host with
        bootAddr := w ++ s.dev.host.bootAddr.extractLsb' 0 32 } } } ∧
      (∀ n : StreamId, w &&& 0xFF#32 = BitVec.ofNat 32 (2 ^ n.val) → put 0x1C = exec (.stop n) s) ∧
      put 0x1C = runAll ((allStreams.filter (fun n => w.getLsbD n.val)).map .stop) s ∧
      (w &&& 0xFF#32 = 0 → put 0x1C = .next s)) ∧
    (SettledNowFor allButGrant s → w.getLsbD 1 = false → w.getLsbD 0 = false → put 0x04 = exec .disable s)

/-! ## Control ring and device states (chapter 9) -/

/-- C_NOP is consumed and posts CONTROL_DONE to CQ0 with both extra fields 0 and the index following it. -/
def Obligations.ControlNopIsConsumed : Prop :=
  ∀ (s : State) (r : Record), Settled s → Takes s .cNop r →
    s.dev.ctl.consumed.head = (s.dev.ctl.head + 1) % s.dev.ctl.size ∧
    ∃ t, exec .cNop s = .next t ∧ t.pending = s.pending ∧
      ControlAnswered 0x20 .controlDone (StreamRecord.tag r) 0 0 0 s.dev t.dev

/-- What the control ring processor refuses whatever the kind: a kind byte of no control kind with BAD_KIND, a reserved
part set with BAD_FIELD, and a failed place with BUS_ERROR and its cause; each is consumed. With a QUERY in progress, or
not in ON, no entry is taken. -/
def Obligations.ControlRefusals : Prop :=
  ∀ (s : State) (r : Record) (level : Bool), SettledNow s →
    (s.dev.ctl.mode = .on → s.dev.ctl.query = none → s.dev.ctl.buffer.head? = some (.record r) →
      (controlKindOf (StreamRecord.kind r) = none → ∃ t, exec .controlBadKind s = .next t ∧ t.pending = s.pending ∧
        ControlAnswered (StreamRecord.kind r) .controlRefused (StreamRecord.tag r) 0 1 0 s.dev t.dev) ∧
      (∀ k, controlKindOf (StreamRecord.kind r) = some k → reservedClear k r = false →
        ∃ t, exec (controlCommand level k) s = .next t ∧ t.pending = s.pending ∧
          ControlAnswered (StreamRecord.kind r) .controlRefused (StreamRecord.tag r)
            (if k = .configureLine ∧ fieldAt r 4 1 ≤ 31 then fieldAt r 4 1 else 0) 2 0 s.dev t.dev)) ∧
    (∀ cause, s.dev.ctl.mode = .on → s.dev.ctl.query = none → s.dev.ctl.buffer.head? = some (.failedPlace cause) →
      ∃ t, exec .failedPlace s = .next t ∧ t.pending = s.pending ∧
        ControlAnswered 0 .controlRefused 0 0 12 (BitVec.ofNat 32 cause) s.dev t.dev) ∧
    ((s.dev.ctl.mode ≠ .on ∨ s.dev.ctl.query ≠ none) → ∀ k,
      exec (controlCommand level k) s = .next s ∧ exec .controlBadKind s = .next s ∧ exec .failedPlace s = .next s)

/-- TIME_RUN, TIME_HOLD, TIME_CONFIG, and TIME_SET with an empty calendar: what each makes of the timebase, and its
completion. The CONTROL_DONE of a TIME_RUN comes before the completions of the entries that then expire (the model's
choice, log 33). -/
def Obligations.TimeRecordsSetTimebase : Prop :=
  ∀ (s : State) (r : Record), SettledNow s →
    let tb := s.dev.tb
    let answers (c : Instr) (kind : Byte) (status : Status) (x1 : W32) (tb' : Timebase) := ∃ t, exec c s = .next t ∧
      t.pending = s.pending ∧
      ControlAnswered kind status (StreamRecord.tag r) 0 x1 0 { s.dev with tb := tb' } t.dev
    (Takes s .timeRun r →
      (tb.mode = .held → tb.present = true →
        answers .timeRun 0x24 .controlDone 1 { tb with mode := .running, divider := 0 }) ∧
      (tb.mode = .held → tb.present = false → answers .timeRun 0x24 .controlDone 2 { tb with mode := .lost }) ∧
      (tb.mode = .running → answers .timeRun 0x24 .controlDone 1 tb) ∧
      (tb.mode = .lost → answers .timeRun 0x24 .controlDone 2 tb)) ∧
    (Takes s .timeHold r → answers .timeHold 0x25 .controlDone 0 { tb with mode := .held, divider := 0 }) ∧
    (Takes s .timeConfig r →
      let p := fieldAt r 16 2
      (tb.mode = .held → 1 ≤ p → p ≤ 256 → answers .timeConfig 0x21 .controlDone 0 { tb with prescale := p }) ∧
      ((tb.mode ≠ .held ∨ p = 0 ∨ 256 < p) → answers .timeConfig 0x21 .controlRefused 2 tb)) ∧
    (Takes s .timeSet r → s.dev.calendar = [] →
      answers .timeSet 0x22 .controlDone 0 { tb with now := StreamRecord.time r })

/-- A step of device time, by TIME_STEP or by TIME_SET with entries in the calendar: refused when it is too long or
would carry an entry out of horizon; backward, and forward over no entry, only device time moves. The entries that a
forward step passes over are resolved one after another in list order, whatever their kinds: a SET, a MARKER, a PULSE in
phase START and a PRIMING pattern are re-timed, marked late or skipped, a train in phase START goes on at its next grid
point or is done, a PLAYING pattern ends, and every other entry is re-timed (R35 to R38, R114). TIME_STEPPED with the
counts of entries resolved late and skipped, then CONTROL_DONE, follow their completions. For a train whose next grid
point lies beyond the horizon, more than 2^46 behind, what is said is DEDUCED (log 27). An entry judged within its window
has its late mark clear (R32, R36, R38; for a SET and a MARKER DEDUCED, log 28), but a PULSE keeps one from before (R33).
The open fields of an ended player are the model's choice (log 23). -/
def Obligations.TimeStepsMoveDeviceTime : Prop :=
  ∀ (s : State) (r : Record) (c : Instr) (kind : Byte) (delta : Int), SettledNow s →
    ((c = .timeStep ∧ kind = 0x23 ∧ Takes s .timeStep r ∧ delta = (StreamRecord.time r).toInt) ∨
      (c = .timeSet ∧ kind = 0x22 ∧ Takes s .timeSet r ∧ s.dev.calendar ≠ [] ∧
        delta = (StreamRecord.time r - s.dev.tb.now).toInt)) →
    let d := s.dev
    let k := delta.natAbs
    let refused (code : W32) := ∃ t, exec c s = .next t ∧ t.pending = s.pending ∧
      ControlAnswered kind .controlRefused (StreamRecord.tag r) 0 code 0 d t.dev
    let moved (now : Time) (calendar : List Entry) : Device :=
      { d with tb := { d.tb with now := now }, calendar := calendar, ctl := d.ctl.consumed }
    let stepped (u : Device) (t : State) (late skipped : Nat) :=
      t.dev = { u with instantOpen := t.dev.instantOpen, holding := t.dev.holding, queues := t.dev.queues } ∧
      (t.dev.instantOpen = true ↔ d.tb.mode = .running ∧ ∃ e, u.calendar.head? = some e ∧ e.due = u.tb.now) ∧
      PostedAll
        [(0, plainCompletion .control kind .timeStepped (StreamRecord.tag r) u.tb.now 0 d.ctl.consumed.head
            (sat32 late) (sat32 skipped)),
          (0, plainCompletion .control kind .controlDone (StreamRecord.tag r) u.tb.now 0 d.ctl.consumed.head 0 0)]
        u t.dev
    let goes (now : Time) (kept : List Entry) (passed : List (Entry × Nat)) := ∃ t u late skipped, exec c s = .next t ∧
      t.pending = s.pending ∧ PassedInTurn now passed (moved now kept) u late skipped ∧ stepped u t late skipped
    (2 ^ 46 < k → refused (if c = .timeStep then 2 else 5)) ∧
    (k ≤ 2 ^ 46 → delta < 0 → (∃ e ∈ d.calendar, 2 ^ 46 < dist d.tb.now e.due + k) → refused 5) ∧
    (k ≤ 2 ^ 46 → delta < 0 → (∀ e ∈ d.calendar, dist d.tb.now e.due + k ≤ 2 ^ 46) →
      goes (d.tb.now - BitVec.ofNat 48 k) d.calendar []) ∧
    (k ≤ 2 ^ 46 → 0 ≤ delta →
      goes (d.tb.now + BitVec.ofNat 48 k) (d.calendar.filter (fun e => decide (k ≤ dist d.tb.now e.due)))
        ((d.calendar.filter (fun e => decide (dist d.tb.now e.due < k))).map (fun e => (e, k - dist d.tb.now e.due))))

/-- CONFIGURE_STREAM, CONFIGURE_CQ, CONFIGURE_LINE and SET_THRESHOLD with every field in range: what each writes, and
its completion; and their refusals STREAM_BUSY, CQ_BUSY, LINE_BUSY, and BAD_FIELD for a field out of range, for a target
queue not ACTIVE and for a threshold above 7. CONFIGURE_LINE also clears the mark `sampled`, the model's own (log 37). -/
def Obligations.ConfigurationRecordsWrite : Prop :=
  ∀ (s : State) (r : Record), Settled s →
    let d := s.dev
    let answers (c : Instr) (kind : Byte) (status : Status) (line : Nat) (x1 x2 : W32) (d' : Device) :=
      ∃ t, exec c s = .next t ∧ t.pending = s.pending ∧
        ControlAnswered kind status (StreamRecord.tag r) line x1 x2 d' t.dev
    let ring := RingInRange (fieldAt r 8 8) (fieldAt r 16 2) 12
    (Takes s .configureStream r → (fieldAt r 4 1 = 0 ∨ 8 < fieldAt r 4 1 ∨ ¬ring ∨ 7 < fieldAt r 5 1 ∨
      fieldAt r 18 2 = 0 ∨ 512 < fieldAt r 18 2 ∨ 3 < fieldAt r 6 1) →
      answers .configureStream 0x26 .controlRefused 0 2 0 d) ∧
    (Takes s .configureCq r → (3 < fieldAt r 4 1 ∨ ¬ring ∨ fieldAt r 5 1 = 0) →
      answers .configureCq 0x27 .controlRefused 0 2 0 d) ∧
    (∀ level, Takes s .configureLine r →
      (31 < fieldAt r 4 1 ∨ 2 < fieldAt r 5 1 ∨ 1 < fieldAt r 6 1 ∨ 15 < fieldAt r 7 1) →
      answers (.configureLine level) 0x28 .controlRefused (if fieldAt r 4 1 ≤ 31 then fieldAt r 4 1 else 0) 2 0 d) ∧
    (∀ (n : StreamId) (q : CqId), Takes s .configureStream r → ring → fieldAt r 4 1 = n.val + 1 →
      fieldAt r 6 1 = q.val → fieldAt r 5 1 ≤ 7 → 1 ≤ fieldAt r 18 2 → fieldAt r 18 2 ≤ 512 →
      ((d.stream n).state ≠ .idle → answers .configureStream 0x26 .controlRefused 0 9 0 d) ∧
      ((d.stream n).state = .idle → (d.queue q).state ≠ .active →
        answers .configureStream 0x26 .controlRefused 0 2 0 d) ∧
      ((d.stream n).state = .idle → (d.queue q).state = .active →
        answers .configureStream 0x26 .controlDone 0 (BitVec.ofNat 32 (n.val + 1)) 0 (d.modStream n (fun y =>
          { y with configured := true, base := BitVec.ofNat 64 (fieldAt r 8 8), size := fieldAt r 16 2,
                   prio := fieldAt r 5 1, quota := fieldAt r 18 2, target := q })))) ∧
    (∀ q : CqId, Takes s .configureCq r → ring → fieldAt r 4 1 = q.val → 1 ≤ fieldAt r 5 1 →
      ((d.queue q).state = .active → answers .configureCq 0x27 .controlRefused 0 10 0 d) ∧
      ((d.queue q).state ≠ .active →
        answers .configureCq 0x27 .controlDone 0 (BitVec.ofNat 32 q.val) 0 (d.modQueue q (fun c =>
          { state := .active, base := BitVec.ofNat 64 (fieldAt r 8 8), size := fieldAt r 16 2, tail := 0, head := 0,
            phase := true, lost := c.lost, countThreshold := fieldAt r 5 1, timeThreshold := fieldAt r 6 2,
            unsignalled := 0, timer := none })))) ∧
    (∀ (l : LineId) (level safe : Bool), Takes s .configureLine r → fieldAt r 4 1 = l.val → fieldAt r 7 1 ≤ 15 →
      fieldAt r 6 1 = safe.toNat → fieldAt r 5 1 ≤ 2 →
      let busy := (d.line l).owner.isSome = true ∨ 0 < watchCount d l
      let becomes (mode : LineMode) (out filtered : Bool) (x1 : Bool) :=
        answers (.configureLine level) 0x28 .controlDone l.val (BitVec.ofNat 32 x1.toNat) 0 (d.modLine l (fun x =>
          { x with mode := mode, safe := safe, filterLength := fieldAt r 7 1, agree := 0, out := out,
                   filtered := filtered, sampled := false }))
      (busy → answers (.configureLine level) 0x28 .controlRefused l.val 11 0 d) ∧
      (¬busy → fieldAt r 5 1 = 0 → becomes .unassigned false false false) ∧
      (¬busy → fieldAt r 5 1 = 1 → becomes .output safe false safe) ∧
      (¬busy → fieldAt r 5 1 = 2 → becomes .input false level level)) ∧
    (Takes s .setThreshold r →
      let v := fieldAt r 4 1
      (7 < v → answers .setThreshold 0x29 .controlRefused 0 2 0 d) ∧
      (v ≤ 7 → ∃ t, exec .setThreshold s = .next t ∧ t.pending = s.pending ∧
        ControlAnswered 0x29 .controlDone (StreamRecord.tag r) 0 (BitVec.ofNat 32 v) (BitVec.ofNat 32 d.threshold)
          { d with threshold := v, streams := t.dev.streams } t.dev ∧
        ∀ n, t.dev.stream n =
          let y := d.stream n
          if y.prio < v then { y with request := withdraw y.request }
          else y.refetched v))

/-- QUERY: the snapshot goes out as four writes of 128 bytes and the QUERY stays in the buffer, in progress; a bad
address is refused. SNAPSHOT_WRITE_RESPONSE, and WRITE_TIMEOUT as a failure, count its responses, and QUERY_CONSUMED
consumes it at four with CONTROL_DONE, or with CONTROL_REFUSED, BUS_ERROR and the failures. Every byte of the snapshot
holds what 12.6 puts there, for numbers that their fields can hold. The identities of writes are counted (the model's
choice, log 8). -/
def Obligations.QueryWritesSnapshot : Prop :=
  (∀ d : Device,
    let holds (o n v : Nat) := v < 2 ^ (8 * n) → bytesAt (snapshotBytes d) o n = v
    let numbered (n : Option StreamId) := match n with | none => 0 | some n => n.val + 1
    (snapshotBytes d).length = 512 ∧
    holds 0 1 (match d.ctl.mode with | .off => 0 | .loading => 1 | .on => 2 | .failed => 3 | .stopping => 4) ∧
    holds 1 1 (match d.tb.mode with | .held => 0 | .running => 1 | .lost => 2) ∧
    holds 2 6 d.tb.now.toNat ∧ holds 8 2 d.calendar.length ∧ holds 10 2 d.ctl.head ∧ holds 12 2 d.ctl.tail ∧
    holds 14 18 0 ∧
    (∀ n : StreamId,
      let y := d.stream n
      let o := 32 + 16 * n.val
      holds o 1 (match y.state with | .idle => 0 | .running => 1 | .waiting => 2 | .halted => 3 | .stopping => 4) ∧
      holds (o + 1) 1 (match y.reason with
        | .noWait => 0 | .arm => 1 | .barrier => 2 | .release => 3 | .space => 4 | .player => 5) ∧
      holds (o + 2) 2 y.head ∧ holds (o + 4) 2 y.tail ∧
      holds (o + 6) 2 (d.calendar.filter (fun e => e.stream == n)).length ∧ holds (o + 8) 6 y.anchor.toNat ∧
      holds (o + 14) 1 y.prio ∧ holds (o + 15) 1 0) ∧
    (∀ l : LineId,
      let x := d.line l
      let o := 160 + 4 * l.val
      let level := match x.mode with | .unassigned => false | .output => x.out | .input => x.filtered
      holds o 1 (match x.mode with | .unassigned => 0 | .output => 1 | .input => 2) ∧
      holds (o + 1) 1 (numbered x.owner) ∧ holds (o + 2) 1 (level.toNat + 2 * x.capture.isSome.toNat) ∧
      holds (o + 3) 1 (allStreams.filter (fun n => (d.stream n).armWait.any (fun w => w.line == l))).length) ∧
    (∀ p : PlayerId,
      holds (288 + 2 * p.val) 1 (match (d.player p).state with
        | .free => 0 | .priming => 1 | .playing => 2 | .retiring => 3) ∧
      holds (289 + 2 * p.val) 1 (numbered (d.player p).stream)) ∧
    holds 296 8 0 ∧
    (∀ q : CqId,
      let c := d.queue q
      let o := 304 + 16 * q.val
      holds o 1 (match c.state with | .unconfigured => 0 | .active => 1 | .faulted => 2) ∧ holds (o + 1) 1 0 ∧
      holds (o + 2) 2 c.head ∧ holds (o + 4) 2 c.tail ∧ holds (o + 6) 2 0 ∧
      holds (o + 8) 4 (min 0xFFFFFFFF c.lost) ∧ holds (o + 12) 4 0) ∧
    holds 368 144 0) ∧
  ∀ s : State,
    let d := s.dev
    (∀ r, Settled s → Takes s .query r →
      let a := queryAddress r
      let write (j : Nat) : Write :=
        { identity := d.nextWrite + j, writer := .snapshot, addr := a + BitVec.ofNat 64 (128 * j),
          data := ((snapshotBytes d).drop (128 * j)).take 128, timeout := d.ctl.timeout, elapsed := 0,
          orphaned := false }
      ((a.toNat % 32 = 0 ∧ a.toNat + 511 < 2 ^ 64) → exec .query s = .next { s with dev := { d with
        ctl := { d.ctl with query := some { tag := StreamRecord.tag r, answered := 0, failures := 0 } },
        writes := d.writes ++ [write 0, write 1, write 2, write 3], nextWrite := d.nextWrite + 4 } }) ∧
      (¬(a.toNat % 32 = 0 ∧ a.toNat + 511 < 2 ^ 64) → ∃ t, exec .query s = .next t ∧ t.pending = s.pending ∧
        ControlAnswered 0x2A .controlRefused (StreamRecord.tag r) 0 2 0 d t.dev)) ∧
    (∀ i w q, Settled s → d.writes.find? (fun y => y.identity == i) = some w → w.writer = .snapshot →
      w.orphaned = false → d.ctl.query = some q →
      let after (failures : Nat) : Device := { d with
        writes := d.writes.filter (fun y => y.identity != i),
        ctl := { d.ctl with query := some { q with answered := q.answered + 1, failures := failures } } }
      exec (.snapshotWriteResponse i true) s = .next { s with dev := after q.failures } ∧
      exec (.snapshotWriteResponse i false) s = .next { s with dev := after (q.failures + 1) } ∧
      exec (.writeTimeout i) s = .next { s with dev := after (q.failures + 1) }) ∧
    (∀ q, SettledFor beforeQuery s → d.ctl.query = some q → 4 ≤ q.answered →
      ∃ t, exec .queryConsumed s = .next t ∧ t.pending = s.pending ∧
        ControlAnswered 0x2A (if q.failures = 0 then .controlDone else .controlRefused) q.tag 0
          (if q.failures = 0 then 0 else 12) (if q.failures = 0 then 0 else BitVec.ofNat 32 q.failures)
          { d with ctl := { d.ctl with query := none } } t.dev)

/-- ENABLE begins LOADING from OFF; it and DISABLE are ignored while an orphaned read or write remains. DISABLE in ON
and LOADING holds the timebase with device time kept, stops every stream that is RUNNING, WAITING or HALTED, and enters
STOPPING: their entries, captures, arm waits and patterns end, their lines go to their safe levels and are given up, and
those with no read in flight pass to IDLE with STREAM_STOPPED, in ascending order of the streams (the model's choice,
log 29). A request that is pending takes no slot before a DISABLE, which withdraws it (the model's choice, log 32). With
nothing left to end it is OFF at once; in FAILED it passes to OFF. TEARDOWN_COMPLETE passes to OFF when streams, reads,
QUERY and completion unit have settled. Fields of OFF, of ended players and of stopped streams to which the spec gives
no value take the model's (log 23). -/
def Obligations.DeviceStatesPass : Prop :=
  ∀ s : State,
    let d := s.dev
    let settled := d.reads = [] ∧ d.ctl.query = none ∧ d.outstanding = none ∧ ∀ h ∈ d.holding, queueOpen d h.queue = false
    let off (c : Instr) := ∃ t, exec c s = .next t ∧ t.pending = s.pending ∧ PassedToOff d t.dev
    (Settled s →
      (quiet d = false → Ignored .enable s) ∧
      (quiet d = true → d.ctl.mode = .stopping → Ignored .enable s) ∧
      (quiet d = true → d.ctl.mode = .off →
        exec .enable s = .next { s with dev := { d with ctl := { d.ctl with mode := .loading, boot := .pending } } }) ∧
      (quiet d = true → (d.ctl.mode = .loading ∨ d.ctl.mode = .on ∨ d.ctl.mode = .failed) →
        exec .enable s = .next s)) ∧
    (SettledNowFor allButGrant s →
      (quiet d = false → Ignored .disable s) ∧
      (quiet d = true → (d.ctl.mode = .off ∨ d.ctl.mode = .stopping) → exec .disable s = .next s) ∧
      (quiet d = true → d.ctl.mode = .failed → off .disable) ∧
      (quiet d = true → (d.ctl.mode = .on ∨ d.ctl.mode = .loading) →
        ((∀ n, (d.stream n).state = .idle) → settled → off .disable) ∧
        ((∀ n, (d.stream n).state = .idle) → ¬settled → exec .disable s = .next { s with dev := { d with
          tb := { d.tb with mode := .held, divider := 0 },
          ctl := { d.ctl with mode := .stopping, buffer := [], request := withdraw d.ctl.request,
                              boot := withdraw d.ctl.boot } } }) ∧
        let active (n : StreamId) := (d.stream n).state == .running || (d.stream n).state == .waiting ||
          (d.stream n).state == .halted
        let reading (n : StreamId) := inFlight (d.stream n).request
        let captures (n : StreamId) (l : LineId) := (d.line l).capture.any (fun c => c.stream == n)
        let work (n : StreamId) := (d.calendar.filter (fun e => e.stream == n &&
            (e.kind != .captureEnd && e.kind != .armDeadline))).length +
          (allLines.filter (captures n)).length + (if (d.stream n).armWait.isSome then 1 else 0)
        let owned (n : StreamId) := maskOf (fun l => (d.line l).owner == some n)
        ∃ t, exec .disable s = .next t ∧ t.pending = s.pending ∧ t.dev.tb.mode = .held ∧
          (t.dev.ctl.mode = .stopping ∨ t.dev.ctl.mode = .off) ∧
          (∀ n, (t.dev.stream n).state = .idle ∨ (t.dev.stream n).state = .stopping) ∧
          ((d.reads ≠ [] ∨ d.ctl.query ≠ none ∨ d.outstanding ≠ none ∨ ∃ n, active n = true ∧ reading n = true) →
            t.dev.ctl.mode = .stopping) ∧
          (t.dev.ctl.mode = .off → PassedToOff d t.dev) ∧
          (t.dev.ctl.mode = .stopping →
            t.dev = { d with
              tb := { d.tb with mode := .held, divider := 0 },
              calendar := d.calendar.filter (fun e => !active e.stream),
              reports := d.reports ++ (allStreams.filter active).flatMap (fun n =>
                (d.calendar.filter (fun e => e.stream == n)).map reportOf),
              lines := t.dev.lines, players := t.dev.players, streams := t.dev.streams, holding := t.dev.holding,
              queues := t.dev.queues,
              ctl := { d.ctl with mode := .stopping, buffer := [], request := withdraw d.ctl.request,
                                  boot := withdraw d.ctl.boot } } ∧
            (∀ l, t.dev.line l =
              let x := d.line l
              { x with capture := if x.capture.any (fun c => active c.stream) then none else x.capture,
                       owner := if x.owner.any active then none else x.owner,
                       out := if x.owner.any active && x.mode == .output then x.safe else x.out }) ∧
            (∀ p, t.dev.player p =
              let pl := d.player p
              if (pl.state = .priming ∨ pl.state = .playing) ∧ pl.stream.any active = true then endedPlayer pl
              else pl) ∧
            (∀ n, t.dev.stream n =
              let y := d.stream n
              let z : Stream := { y with reason := .noWait, buffer := [], request := withdraw y.request,
                                         armWait := none }
              if active n = false then y
              else if reading n = true then { z with state := .stopping, stopCount := work n, stopLines := owned n }
              else { z with state := .idle, head := 0, tail := 0, stopCount := 0, stopLines := 0 }) ∧
            PostedAll ((allStreams.filter (fun n => active n && !reading n)).map (fun n =>
              ((d.stream n).target, plainCompletion (.stream n) 0 .streamStopped 0 d.tb.now 0 (d.stream n).head
                (sat32 (work n)) (owned n)))) d t.dev))) ∧
    (SettledFor beforeTeardown s → d.ctl.mode = .stopping →
      ((∀ n, (d.stream n).state = .idle) → settled → off .teardownComplete) ∧
      (¬((∀ n, (d.stream n).state = .idle) ∧ settled) → exec .teardownComplete s = .next s))

/-- SOFT_RESET and PIN_RESET put every block at its reset values, with the model's (log 23) where the spec gives none; a
soft reset keeps BOOT_ADDR, EVENT_MASK and the reads and writes in flight, orphaned, and clears EVENT; a pin reset
forgets them. The identities used stay used (log 8). While RESET_N is low only its two commands and the register read
change anything, no pin is driven and every register reads 0; RESET_N_RISE sets the part going from there. -/
def Obligations.ResetsPutEveryBlockBack : Prop :=
  ∀ s : State,
    let d := s.dev
    (Settled s → exec .softReset s = .next { s with dev := { Device.reset with
      host := { d.host with event := 0 }, reads := d.reads.map (fun x => { x with orphaned := true }),
      writes := d.writes.map (fun x => { x with orphaned := true }), nextRead := d.nextRead,
      nextWrite := d.nextWrite } }) ∧
    exec .pinReset s = .next { s with dev := { Device.reset with
      host := { Device.reset.host with resetN := false }, nextRead := d.nextRead, nextWrite := d.nextWrite } } ∧
    exec .resetNRise s = .next { s with dev := { d with host := { d.host with resetN := true } } } ∧
    (d.host.resetN = false → (∀ c, c ≠ .pinReset → c ≠ .resetNRise → c ≠ .timeLoRead → exec c s = .next s) ∧
      (∀ l, pin d l = none) ∧ ∀ o size, readWindow d o size = 0)
end

