-- ==== Sys2Proof/Laws/State.lean ====
section
/-! SUPPORT. What each update of one block does to each field: one lemma per field per update, so that no later proof
unfolds a record update. -/

namespace Sys2Proof.Machine

/-! ## modTb -/

@[simp] theorem Device.modTb_tb (d : Device) (f : Timebase → Timebase) : (d.modTb f).tb = f d.tb := rfl
@[simp] theorem Device.modTb_calendar (d : Device) (f : Timebase → Timebase) : (d.modTb f).calendar = d.calendar := rfl
@[simp] theorem Device.modTb_reports (d : Device) (f : Timebase → Timebase) : (d.modTb f).reports = d.reports := rfl
@[simp] theorem Device.modTb_instantOpen (d : Device) (f : Timebase → Timebase) : (d.modTb f).instantOpen = d.instantOpen := rfl
@[simp] theorem Device.modTb_stagedMask (d : Device) (f : Timebase → Timebase) : (d.modTb f).stagedMask = d.stagedMask := rfl
@[simp] theorem Device.modTb_stagedLevels (d : Device) (f : Timebase → Timebase) : (d.modTb f).stagedLevels = d.stagedLevels := rfl
@[simp] theorem Device.modTb_lines (d : Device) (f : Timebase → Timebase) : (d.modTb f).lines = d.lines := rfl
@[simp] theorem Device.modTb_edges (d : Device) (f : Timebase → Timebase) : (d.modTb f).edges = d.edges := rfl
@[simp] theorem Device.modTb_players (d : Device) (f : Timebase → Timebase) : (d.modTb f).players = d.players := rfl
@[simp] theorem Device.modTb_streams (d : Device) (f : Timebase → Timebase) : (d.modTb f).streams = d.streams := rfl
@[simp] theorem Device.modTb_threshold (d : Device) (f : Timebase → Timebase) : (d.modTb f).threshold = d.threshold := rfl
@[simp] theorem Device.modTb_holding (d : Device) (f : Timebase → Timebase) : (d.modTb f).holding = d.holding := rfl
@[simp] theorem Device.modTb_outstanding (d : Device) (f : Timebase → Timebase) : (d.modTb f).outstanding = d.outstanding := rfl
@[simp] theorem Device.modTb_queues (d : Device) (f : Timebase → Timebase) : (d.modTb f).queues = d.queues := rfl
@[simp] theorem Device.modTb_ctl (d : Device) (f : Timebase → Timebase) : (d.modTb f).ctl = d.ctl := rfl
@[simp] theorem Device.modTb_host (d : Device) (f : Timebase → Timebase) : (d.modTb f).host = d.host := rfl
@[simp] theorem Device.modTb_reads (d : Device) (f : Timebase → Timebase) : (d.modTb f).reads = d.reads := rfl
@[simp] theorem Device.modTb_writes (d : Device) (f : Timebase → Timebase) : (d.modTb f).writes = d.writes := rfl
@[simp] theorem Device.modTb_roundRobin (d : Device) (f : Timebase → Timebase) : (d.modTb f).roundRobin = d.roundRobin := rfl
@[simp] theorem Device.modTb_nextRead (d : Device) (f : Timebase → Timebase) : (d.modTb f).nextRead = d.nextRead := rfl
@[simp] theorem Device.modTb_nextWrite (d : Device) (f : Timebase → Timebase) : (d.modTb f).nextWrite = d.nextWrite := rfl
@[simp] theorem Device.modTb_stream (d : Device) (f : Timebase → Timebase) (k : StreamId) : (d.modTb f).stream k = d.stream k := rfl
@[simp] theorem Device.modTb_line (d : Device) (f : Timebase → Timebase) (k : LineId) : (d.modTb f).line k = d.line k := rfl
@[simp] theorem Device.modTb_player (d : Device) (f : Timebase → Timebase) (k : PlayerId) : (d.modTb f).player k = d.player k := rfl
@[simp] theorem Device.modTb_queue (d : Device) (f : Timebase → Timebase) (k : CqId) : (d.modTb f).queue k = d.queue k := rfl
@[simp] theorem Device.modTb_isRunning (d : Device) (f : Timebase → Timebase) : (d.modTb f).isRunning = ((f d.tb).mode == .running) := rfl

/-! ## modCtl -/

@[simp] theorem Device.modCtl_tb (d : Device) (f : Control → Control) : (d.modCtl f).tb = d.tb := rfl
@[simp] theorem Device.modCtl_calendar (d : Device) (f : Control → Control) : (d.modCtl f).calendar = d.calendar := rfl
@[simp] theorem Device.modCtl_reports (d : Device) (f : Control → Control) : (d.modCtl f).reports = d.reports := rfl
@[simp] theorem Device.modCtl_instantOpen (d : Device) (f : Control → Control) : (d.modCtl f).instantOpen = d.instantOpen := rfl
@[simp] theorem Device.modCtl_stagedMask (d : Device) (f : Control → Control) : (d.modCtl f).stagedMask = d.stagedMask := rfl
@[simp] theorem Device.modCtl_stagedLevels (d : Device) (f : Control → Control) : (d.modCtl f).stagedLevels = d.stagedLevels := rfl
@[simp] theorem Device.modCtl_lines (d : Device) (f : Control → Control) : (d.modCtl f).lines = d.lines := rfl
@[simp] theorem Device.modCtl_edges (d : Device) (f : Control → Control) : (d.modCtl f).edges = d.edges := rfl
@[simp] theorem Device.modCtl_players (d : Device) (f : Control → Control) : (d.modCtl f).players = d.players := rfl
@[simp] theorem Device.modCtl_streams (d : Device) (f : Control → Control) : (d.modCtl f).streams = d.streams := rfl
@[simp] theorem Device.modCtl_threshold (d : Device) (f : Control → Control) : (d.modCtl f).threshold = d.threshold := rfl
@[simp] theorem Device.modCtl_holding (d : Device) (f : Control → Control) : (d.modCtl f).holding = d.holding := rfl
@[simp] theorem Device.modCtl_outstanding (d : Device) (f : Control → Control) : (d.modCtl f).outstanding = d.outstanding := rfl
@[simp] theorem Device.modCtl_queues (d : Device) (f : Control → Control) : (d.modCtl f).queues = d.queues := rfl
@[simp] theorem Device.modCtl_ctl (d : Device) (f : Control → Control) : (d.modCtl f).ctl = f d.ctl := rfl
@[simp] theorem Device.modCtl_host (d : Device) (f : Control → Control) : (d.modCtl f).host = d.host := rfl
@[simp] theorem Device.modCtl_reads (d : Device) (f : Control → Control) : (d.modCtl f).reads = d.reads := rfl
@[simp] theorem Device.modCtl_writes (d : Device) (f : Control → Control) : (d.modCtl f).writes = d.writes := rfl
@[simp] theorem Device.modCtl_roundRobin (d : Device) (f : Control → Control) : (d.modCtl f).roundRobin = d.roundRobin := rfl
@[simp] theorem Device.modCtl_nextRead (d : Device) (f : Control → Control) : (d.modCtl f).nextRead = d.nextRead := rfl
@[simp] theorem Device.modCtl_nextWrite (d : Device) (f : Control → Control) : (d.modCtl f).nextWrite = d.nextWrite := rfl
@[simp] theorem Device.modCtl_stream (d : Device) (f : Control → Control) (k : StreamId) : (d.modCtl f).stream k = d.stream k := rfl
@[simp] theorem Device.modCtl_line (d : Device) (f : Control → Control) (k : LineId) : (d.modCtl f).line k = d.line k := rfl
@[simp] theorem Device.modCtl_player (d : Device) (f : Control → Control) (k : PlayerId) : (d.modCtl f).player k = d.player k := rfl
@[simp] theorem Device.modCtl_queue (d : Device) (f : Control → Control) (k : CqId) : (d.modCtl f).queue k = d.queue k := rfl
@[simp] theorem Device.modCtl_isRunning (d : Device) (f : Control → Control) : (d.modCtl f).isRunning = d.isRunning := rfl

/-! ## modHost -/

@[simp] theorem Device.modHost_tb (d : Device) (f : HostPort → HostPort) : (d.modHost f).tb = d.tb := rfl
@[simp] theorem Device.modHost_calendar (d : Device) (f : HostPort → HostPort) : (d.modHost f).calendar = d.calendar := rfl
@[simp] theorem Device.modHost_reports (d : Device) (f : HostPort → HostPort) : (d.modHost f).reports = d.reports := rfl
@[simp] theorem Device.modHost_instantOpen (d : Device) (f : HostPort → HostPort) : (d.modHost f).instantOpen = d.instantOpen := rfl
@[simp] theorem Device.modHost_stagedMask (d : Device) (f : HostPort → HostPort) : (d.modHost f).stagedMask = d.stagedMask := rfl
@[simp] theorem Device.modHost_stagedLevels (d : Device) (f : HostPort → HostPort) : (d.modHost f).stagedLevels = d.stagedLevels := rfl
@[simp] theorem Device.modHost_lines (d : Device) (f : HostPort → HostPort) : (d.modHost f).lines = d.lines := rfl
@[simp] theorem Device.modHost_edges (d : Device) (f : HostPort → HostPort) : (d.modHost f).edges = d.edges := rfl
@[simp] theorem Device.modHost_players (d : Device) (f : HostPort → HostPort) : (d.modHost f).players = d.players := rfl
@[simp] theorem Device.modHost_streams (d : Device) (f : HostPort → HostPort) : (d.modHost f).streams = d.streams := rfl
@[simp] theorem Device.modHost_threshold (d : Device) (f : HostPort → HostPort) : (d.modHost f).threshold = d.threshold := rfl
@[simp] theorem Device.modHost_holding (d : Device) (f : HostPort → HostPort) : (d.modHost f).holding = d.holding := rfl
@[simp] theorem Device.modHost_outstanding (d : Device) (f : HostPort → HostPort) : (d.modHost f).outstanding = d.outstanding := rfl
@[simp] theorem Device.modHost_queues (d : Device) (f : HostPort → HostPort) : (d.modHost f).queues = d.queues := rfl
@[simp] theorem Device.modHost_ctl (d : Device) (f : HostPort → HostPort) : (d.modHost f).ctl = d.ctl := rfl
@[simp] theorem Device.modHost_host (d : Device) (f : HostPort → HostPort) : (d.modHost f).host = f d.host := rfl
@[simp] theorem Device.modHost_reads (d : Device) (f : HostPort → HostPort) : (d.modHost f).reads = d.reads := rfl
@[simp] theorem Device.modHost_writes (d : Device) (f : HostPort → HostPort) : (d.modHost f).writes = d.writes := rfl
@[simp] theorem Device.modHost_roundRobin (d : Device) (f : HostPort → HostPort) : (d.modHost f).roundRobin = d.roundRobin := rfl
@[simp] theorem Device.modHost_nextRead (d : Device) (f : HostPort → HostPort) : (d.modHost f).nextRead = d.nextRead := rfl
@[simp] theorem Device.modHost_nextWrite (d : Device) (f : HostPort → HostPort) : (d.modHost f).nextWrite = d.nextWrite := rfl
@[simp] theorem Device.modHost_stream (d : Device) (f : HostPort → HostPort) (k : StreamId) : (d.modHost f).stream k = d.stream k := rfl
@[simp] theorem Device.modHost_line (d : Device) (f : HostPort → HostPort) (k : LineId) : (d.modHost f).line k = d.line k := rfl
@[simp] theorem Device.modHost_player (d : Device) (f : HostPort → HostPort) (k : PlayerId) : (d.modHost f).player k = d.player k := rfl
@[simp] theorem Device.modHost_queue (d : Device) (f : HostPort → HostPort) (k : CqId) : (d.modHost f).queue k = d.queue k := rfl
@[simp] theorem Device.modHost_isRunning (d : Device) (f : HostPort → HostPort) : (d.modHost f).isRunning = d.isRunning := rfl

/-! ## modStream -/

@[simp] theorem Device.modStream_tb (d : Device) (n : StreamId) (f : Stream → Stream) : (d.modStream n f).tb = d.tb := rfl
@[simp] theorem Device.modStream_calendar (d : Device) (n : StreamId) (f : Stream → Stream) : (d.modStream n f).calendar = d.calendar := rfl
@[simp] theorem Device.modStream_reports (d : Device) (n : StreamId) (f : Stream → Stream) : (d.modStream n f).reports = d.reports := rfl
@[simp] theorem Device.modStream_instantOpen (d : Device) (n : StreamId) (f : Stream → Stream) : (d.modStream n f).instantOpen = d.instantOpen := rfl
@[simp] theorem Device.modStream_stagedMask (d : Device) (n : StreamId) (f : Stream → Stream) : (d.modStream n f).stagedMask = d.stagedMask := rfl
@[simp] theorem Device.modStream_stagedLevels (d : Device) (n : StreamId) (f : Stream → Stream) : (d.modStream n f).stagedLevels = d.stagedLevels := rfl
@[simp] theorem Device.modStream_lines (d : Device) (n : StreamId) (f : Stream → Stream) : (d.modStream n f).lines = d.lines := rfl
@[simp] theorem Device.modStream_edges (d : Device) (n : StreamId) (f : Stream → Stream) : (d.modStream n f).edges = d.edges := rfl
@[simp] theorem Device.modStream_players (d : Device) (n : StreamId) (f : Stream → Stream) : (d.modStream n f).players = d.players := rfl
@[simp] theorem Device.modStream_threshold (d : Device) (n : StreamId) (f : Stream → Stream) : (d.modStream n f).threshold = d.threshold := rfl
@[simp] theorem Device.modStream_holding (d : Device) (n : StreamId) (f : Stream → Stream) : (d.modStream n f).holding = d.holding := rfl
@[simp] theorem Device.modStream_outstanding (d : Device) (n : StreamId) (f : Stream → Stream) : (d.modStream n f).outstanding = d.outstanding := rfl
@[simp] theorem Device.modStream_queues (d : Device) (n : StreamId) (f : Stream → Stream) : (d.modStream n f).queues = d.queues := rfl
@[simp] theorem Device.modStream_ctl (d : Device) (n : StreamId) (f : Stream → Stream) : (d.modStream n f).ctl = d.ctl := rfl
@[simp] theorem Device.modStream_host (d : Device) (n : StreamId) (f : Stream → Stream) : (d.modStream n f).host = d.host := rfl
@[simp] theorem Device.modStream_reads (d : Device) (n : StreamId) (f : Stream → Stream) : (d.modStream n f).reads = d.reads := rfl
@[simp] theorem Device.modStream_writes (d : Device) (n : StreamId) (f : Stream → Stream) : (d.modStream n f).writes = d.writes := rfl
@[simp] theorem Device.modStream_roundRobin (d : Device) (n : StreamId) (f : Stream → Stream) : (d.modStream n f).roundRobin = d.roundRobin := rfl
@[simp] theorem Device.modStream_nextRead (d : Device) (n : StreamId) (f : Stream → Stream) : (d.modStream n f).nextRead = d.nextRead := rfl
@[simp] theorem Device.modStream_nextWrite (d : Device) (n : StreamId) (f : Stream → Stream) : (d.modStream n f).nextWrite = d.nextWrite := rfl
@[simp] theorem Device.modStream_line (d : Device) (n : StreamId) (f : Stream → Stream) (k : LineId) : (d.modStream n f).line k = d.line k := rfl
@[simp] theorem Device.modStream_player (d : Device) (n : StreamId) (f : Stream → Stream) (k : PlayerId) : (d.modStream n f).player k = d.player k := rfl
@[simp] theorem Device.modStream_queue (d : Device) (n : StreamId) (f : Stream → Stream) (k : CqId) : (d.modStream n f).queue k = d.queue k := rfl
@[simp] theorem Device.modStream_isRunning (d : Device) (n : StreamId) (f : Stream → Stream) : (d.modStream n f).isRunning = d.isRunning := rfl

/-! ## modLine -/

@[simp] theorem Device.modLine_tb (d : Device) (l : LineId) (f : Line → Line) : (d.modLine l f).tb = d.tb := rfl
@[simp] theorem Device.modLine_calendar (d : Device) (l : LineId) (f : Line → Line) : (d.modLine l f).calendar = d.calendar := rfl
@[simp] theorem Device.modLine_reports (d : Device) (l : LineId) (f : Line → Line) : (d.modLine l f).reports = d.reports := rfl
@[simp] theorem Device.modLine_instantOpen (d : Device) (l : LineId) (f : Line → Line) : (d.modLine l f).instantOpen = d.instantOpen := rfl
@[simp] theorem Device.modLine_stagedMask (d : Device) (l : LineId) (f : Line → Line) : (d.modLine l f).stagedMask = d.stagedMask := rfl
@[simp] theorem Device.modLine_stagedLevels (d : Device) (l : LineId) (f : Line → Line) : (d.modLine l f).stagedLevels = d.stagedLevels := rfl
@[simp] theorem Device.modLine_edges (d : Device) (l : LineId) (f : Line → Line) : (d.modLine l f).edges = d.edges := rfl
@[simp] theorem Device.modLine_players (d : Device) (l : LineId) (f : Line → Line) : (d.modLine l f).players = d.players := rfl
@[simp] theorem Device.modLine_streams (d : Device) (l : LineId) (f : Line → Line) : (d.modLine l f).streams = d.streams := rfl
@[simp] theorem Device.modLine_threshold (d : Device) (l : LineId) (f : Line → Line) : (d.modLine l f).threshold = d.threshold := rfl
@[simp] theorem Device.modLine_holding (d : Device) (l : LineId) (f : Line → Line) : (d.modLine l f).holding = d.holding := rfl
@[simp] theorem Device.modLine_outstanding (d : Device) (l : LineId) (f : Line → Line) : (d.modLine l f).outstanding = d.outstanding := rfl
@[simp] theorem Device.modLine_queues (d : Device) (l : LineId) (f : Line → Line) : (d.modLine l f).queues = d.queues := rfl
@[simp] theorem Device.modLine_ctl (d : Device) (l : LineId) (f : Line → Line) : (d.modLine l f).ctl = d.ctl := rfl
@[simp] theorem Device.modLine_host (d : Device) (l : LineId) (f : Line → Line) : (d.modLine l f).host = d.host := rfl
@[simp] theorem Device.modLine_reads (d : Device) (l : LineId) (f : Line → Line) : (d.modLine l f).reads = d.reads := rfl
@[simp] theorem Device.modLine_writes (d : Device) (l : LineId) (f : Line → Line) : (d.modLine l f).writes = d.writes := rfl
@[simp] theorem Device.modLine_roundRobin (d : Device) (l : LineId) (f : Line → Line) : (d.modLine l f).roundRobin = d.roundRobin := rfl
@[simp] theorem Device.modLine_nextRead (d : Device) (l : LineId) (f : Line → Line) : (d.modLine l f).nextRead = d.nextRead := rfl
@[simp] theorem Device.modLine_nextWrite (d : Device) (l : LineId) (f : Line → Line) : (d.modLine l f).nextWrite = d.nextWrite := rfl
@[simp] theorem Device.modLine_stream (d : Device) (l : LineId) (f : Line → Line) (k : StreamId) : (d.modLine l f).stream k = d.stream k := rfl
@[simp] theorem Device.modLine_player (d : Device) (l : LineId) (f : Line → Line) (k : PlayerId) : (d.modLine l f).player k = d.player k := rfl
@[simp] theorem Device.modLine_queue (d : Device) (l : LineId) (f : Line → Line) (k : CqId) : (d.modLine l f).queue k = d.queue k := rfl
@[simp] theorem Device.modLine_isRunning (d : Device) (l : LineId) (f : Line → Line) : (d.modLine l f).isRunning = d.isRunning := rfl

/-! ## mapLines -/

@[simp] theorem Device.mapLines_tb (d : Device) (f : LineId → Line → Line) : (d.mapLines f).tb = d.tb := by simp only [Device.mapLines]
@[simp] theorem Device.mapLines_calendar (d : Device) (f : LineId → Line → Line) : (d.mapLines f).calendar = d.calendar := by simp only [Device.mapLines]
@[simp] theorem Device.mapLines_reports (d : Device) (f : LineId → Line → Line) : (d.mapLines f).reports = d.reports := by simp only [Device.mapLines]
@[simp] theorem Device.mapLines_instantOpen (d : Device) (f : LineId → Line → Line) : (d.mapLines f).instantOpen = d.instantOpen := by simp only [Device.mapLines]
@[simp] theorem Device.mapLines_stagedMask (d : Device) (f : LineId → Line → Line) : (d.mapLines f).stagedMask = d.stagedMask := by simp only [Device.mapLines]
@[simp] theorem Device.mapLines_stagedLevels (d : Device) (f : LineId → Line → Line) : (d.mapLines f).stagedLevels = d.stagedLevels := by simp only [Device.mapLines]
@[simp] theorem Device.mapLines_edges (d : Device) (f : LineId → Line → Line) : (d.mapLines f).edges = d.edges := by simp only [Device.mapLines]
@[simp] theorem Device.mapLines_players (d : Device) (f : LineId → Line → Line) : (d.mapLines f).players = d.players := by simp only [Device.mapLines]
@[simp] theorem Device.mapLines_streams (d : Device) (f : LineId → Line → Line) : (d.mapLines f).streams = d.streams := by simp only [Device.mapLines]
@[simp] theorem Device.mapLines_threshold (d : Device) (f : LineId → Line → Line) : (d.mapLines f).threshold = d.threshold := by simp only [Device.mapLines]
@[simp] theorem Device.mapLines_holding (d : Device) (f : LineId → Line → Line) : (d.mapLines f).holding = d.holding := by simp only [Device.mapLines]
@[simp] theorem Device.mapLines_outstanding (d : Device) (f : LineId → Line → Line) : (d.mapLines f).outstanding = d.outstanding := by simp only [Device.mapLines]
@[simp] theorem Device.mapLines_queues (d : Device) (f : LineId → Line → Line) : (d.mapLines f).queues = d.queues := by simp only [Device.mapLines]
@[simp] theorem Device.mapLines_ctl (d : Device) (f : LineId → Line → Line) : (d.mapLines f).ctl = d.ctl := by simp only [Device.mapLines]
@[simp] theorem Device.mapLines_host (d : Device) (f : LineId → Line → Line) : (d.mapLines f).host = d.host := by simp only [Device.mapLines]
@[simp] theorem Device.mapLines_reads (d : Device) (f : LineId → Line → Line) : (d.mapLines f).reads = d.reads := by simp only [Device.mapLines]
@[simp] theorem Device.mapLines_writes (d : Device) (f : LineId → Line → Line) : (d.mapLines f).writes = d.writes := by simp only [Device.mapLines]
@[simp] theorem Device.mapLines_roundRobin (d : Device) (f : LineId → Line → Line) : (d.mapLines f).roundRobin = d.roundRobin := by simp only [Device.mapLines]
@[simp] theorem Device.mapLines_nextRead (d : Device) (f : LineId → Line → Line) : (d.mapLines f).nextRead = d.nextRead := by simp only [Device.mapLines]
@[simp] theorem Device.mapLines_nextWrite (d : Device) (f : LineId → Line → Line) : (d.mapLines f).nextWrite = d.nextWrite := by simp only [Device.mapLines]
@[simp] theorem Device.mapLines_stream (d : Device) (f : LineId → Line → Line) (k : StreamId) : (d.mapLines f).stream k = d.stream k := by simp only [Device.mapLines, Device.stream]
@[simp] theorem Device.mapLines_player (d : Device) (f : LineId → Line → Line) (k : PlayerId) : (d.mapLines f).player k = d.player k := by simp only [Device.mapLines, Device.player]
@[simp] theorem Device.mapLines_queue (d : Device) (f : LineId → Line → Line) (k : CqId) : (d.mapLines f).queue k = d.queue k := by simp only [Device.mapLines, Device.queue]
@[simp] theorem Device.mapLines_isRunning (d : Device) (f : LineId → Line → Line) : (d.mapLines f).isRunning = d.isRunning := by simp only [Device.mapLines, Device.isRunning]

/-! ## modPlayer -/

@[simp] theorem Device.modPlayer_tb (d : Device) (p : PlayerId) (f : Player → Player) : (d.modPlayer p f).tb = d.tb := rfl
@[simp] theorem Device.modPlayer_calendar (d : Device) (p : PlayerId) (f : Player → Player) : (d.modPlayer p f).calendar = d.calendar := rfl
@[simp] theorem Device.modPlayer_reports (d : Device) (p : PlayerId) (f : Player → Player) : (d.modPlayer p f).reports = d.reports := rfl
@[simp] theorem Device.modPlayer_instantOpen (d : Device) (p : PlayerId) (f : Player → Player) : (d.modPlayer p f).instantOpen = d.instantOpen := rfl
@[simp] theorem Device.modPlayer_stagedMask (d : Device) (p : PlayerId) (f : Player → Player) : (d.modPlayer p f).stagedMask = d.stagedMask := rfl
@[simp] theorem Device.modPlayer_stagedLevels (d : Device) (p : PlayerId) (f : Player → Player) : (d.modPlayer p f).stagedLevels = d.stagedLevels := rfl
@[simp] theorem Device.modPlayer_lines (d : Device) (p : PlayerId) (f : Player → Player) : (d.modPlayer p f).lines = d.lines := rfl
@[simp] theorem Device.modPlayer_edges (d : Device) (p : PlayerId) (f : Player → Player) : (d.modPlayer p f).edges = d.edges := rfl
@[simp] theorem Device.modPlayer_streams (d : Device) (p : PlayerId) (f : Player → Player) : (d.modPlayer p f).streams = d.streams := rfl
@[simp] theorem Device.modPlayer_threshold (d : Device) (p : PlayerId) (f : Player → Player) : (d.modPlayer p f).threshold = d.threshold := rfl
@[simp] theorem Device.modPlayer_holding (d : Device) (p : PlayerId) (f : Player → Player) : (d.modPlayer p f).holding = d.holding := rfl
@[simp] theorem Device.modPlayer_outstanding (d : Device) (p : PlayerId) (f : Player → Player) : (d.modPlayer p f).outstanding = d.outstanding := rfl
@[simp] theorem Device.modPlayer_queues (d : Device) (p : PlayerId) (f : Player → Player) : (d.modPlayer p f).queues = d.queues := rfl
@[simp] theorem Device.modPlayer_ctl (d : Device) (p : PlayerId) (f : Player → Player) : (d.modPlayer p f).ctl = d.ctl := rfl
@[simp] theorem Device.modPlayer_host (d : Device) (p : PlayerId) (f : Player → Player) : (d.modPlayer p f).host = d.host := rfl
@[simp] theorem Device.modPlayer_reads (d : Device) (p : PlayerId) (f : Player → Player) : (d.modPlayer p f).reads = d.reads := rfl
@[simp] theorem Device.modPlayer_writes (d : Device) (p : PlayerId) (f : Player → Player) : (d.modPlayer p f).writes = d.writes := rfl
@[simp] theorem Device.modPlayer_roundRobin (d : Device) (p : PlayerId) (f : Player → Player) : (d.modPlayer p f).roundRobin = d.roundRobin := rfl
@[simp] theorem Device.modPlayer_nextRead (d : Device) (p : PlayerId) (f : Player → Player) : (d.modPlayer p f).nextRead = d.nextRead := rfl
@[simp] theorem Device.modPlayer_nextWrite (d : Device) (p : PlayerId) (f : Player → Player) : (d.modPlayer p f).nextWrite = d.nextWrite := rfl
@[simp] theorem Device.modPlayer_stream (d : Device) (p : PlayerId) (f : Player → Player) (k : StreamId) : (d.modPlayer p f).stream k = d.stream k := rfl
@[simp] theorem Device.modPlayer_line (d : Device) (p : PlayerId) (f : Player → Player) (k : LineId) : (d.modPlayer p f).line k = d.line k := rfl
@[simp] theorem Device.modPlayer_queue (d : Device) (p : PlayerId) (f : Player → Player) (k : CqId) : (d.modPlayer p f).queue k = d.queue k := rfl
@[simp] theorem Device.modPlayer_isRunning (d : Device) (p : PlayerId) (f : Player → Player) : (d.modPlayer p f).isRunning = d.isRunning := rfl

/-! ## modQueue -/

@[simp] theorem Device.modQueue_tb (d : Device) (q : CqId) (f : Queue → Queue) : (d.modQueue q f).tb = d.tb := rfl
@[simp] theorem Device.modQueue_calendar (d : Device) (q : CqId) (f : Queue → Queue) : (d.modQueue q f).calendar = d.calendar := rfl
@[simp] theorem Device.modQueue_reports (d : Device) (q : CqId) (f : Queue → Queue) : (d.modQueue q f).reports = d.reports := rfl
@[simp] theorem Device.modQueue_instantOpen (d : Device) (q : CqId) (f : Queue → Queue) : (d.modQueue q f).instantOpen = d.instantOpen := rfl
@[simp] theorem Device.modQueue_stagedMask (d : Device) (q : CqId) (f : Queue → Queue) : (d.modQueue q f).stagedMask = d.stagedMask := rfl
@[simp] theorem Device.modQueue_stagedLevels (d : Device) (q : CqId) (f : Queue → Queue) : (d.modQueue q f).stagedLevels = d.stagedLevels := rfl
@[simp] theorem Device.modQueue_lines (d : Device) (q : CqId) (f : Queue → Queue) : (d.modQueue q f).lines = d.lines := rfl
@[simp] theorem Device.modQueue_edges (d : Device) (q : CqId) (f : Queue → Queue) : (d.modQueue q f).edges = d.edges := rfl
@[simp] theorem Device.modQueue_players (d : Device) (q : CqId) (f : Queue → Queue) : (d.modQueue q f).players = d.players := rfl
@[simp] theorem Device.modQueue_streams (d : Device) (q : CqId) (f : Queue → Queue) : (d.modQueue q f).streams = d.streams := rfl
@[simp] theorem Device.modQueue_threshold (d : Device) (q : CqId) (f : Queue → Queue) : (d.modQueue q f).threshold = d.threshold := rfl
@[simp] theorem Device.modQueue_holding (d : Device) (q : CqId) (f : Queue → Queue) : (d.modQueue q f).holding = d.holding := rfl
@[simp] theorem Device.modQueue_outstanding (d : Device) (q : CqId) (f : Queue → Queue) : (d.modQueue q f).outstanding = d.outstanding := rfl
@[simp] theorem Device.modQueue_ctl (d : Device) (q : CqId) (f : Queue → Queue) : (d.modQueue q f).ctl = d.ctl := rfl
@[simp] theorem Device.modQueue_host (d : Device) (q : CqId) (f : Queue → Queue) : (d.modQueue q f).host = d.host := rfl
@[simp] theorem Device.modQueue_reads (d : Device) (q : CqId) (f : Queue → Queue) : (d.modQueue q f).reads = d.reads := rfl
@[simp] theorem Device.modQueue_writes (d : Device) (q : CqId) (f : Queue → Queue) : (d.modQueue q f).writes = d.writes := rfl
@[simp] theorem Device.modQueue_roundRobin (d : Device) (q : CqId) (f : Queue → Queue) : (d.modQueue q f).roundRobin = d.roundRobin := rfl
@[simp] theorem Device.modQueue_nextRead (d : Device) (q : CqId) (f : Queue → Queue) : (d.modQueue q f).nextRead = d.nextRead := rfl
@[simp] theorem Device.modQueue_nextWrite (d : Device) (q : CqId) (f : Queue → Queue) : (d.modQueue q f).nextWrite = d.nextWrite := rfl
@[simp] theorem Device.modQueue_stream (d : Device) (q : CqId) (f : Queue → Queue) (k : StreamId) : (d.modQueue q f).stream k = d.stream k := rfl
@[simp] theorem Device.modQueue_line (d : Device) (q : CqId) (f : Queue → Queue) (k : LineId) : (d.modQueue q f).line k = d.line k := rfl
@[simp] theorem Device.modQueue_player (d : Device) (q : CqId) (f : Queue → Queue) (k : PlayerId) : (d.modQueue q f).player k = d.player k := rfl
@[simp] theorem Device.modQueue_isRunning (d : Device) (q : CqId) (f : Queue → Queue) : (d.modQueue q f).isRunning = d.isRunning := rfl

/-! ## Reading back what an update of one block wrote -/

theorem Device.modStream_stream (d : Device) (n m : StreamId) (f : Stream → Stream) :
    (d.modStream n f).stream m = if m = n then f (d.stream n) else d.stream m := by
  simp only [Device.modStream, Device.stream, Vector.get_eq_getElem, Vector.getElem_set, Fin.ext_iff, eq_comm]

@[simp] theorem Device.modStream_stream_self (d : Device) (n : StreamId) (f : Stream → Stream) :
    (d.modStream n f).stream n = f (d.stream n) := by simp [Device.modStream_stream]

@[simp] theorem Device.modStream_stream_other (d : Device) (n m : StreamId) (f : Stream → Stream) (h : m ≠ n) :
    (d.modStream n f).stream m = d.stream m := by simp [Device.modStream_stream, h]

theorem Device.modLine_line (d : Device) (n m : LineId) (f : Line → Line) :
    (d.modLine n f).line m = if m = n then f (d.line n) else d.line m := by
  simp only [Device.modLine, Device.line, Vector.get_eq_getElem, Vector.getElem_set, Fin.ext_iff, eq_comm]

@[simp] theorem Device.modLine_line_self (d : Device) (n : LineId) (f : Line → Line) :
    (d.modLine n f).line n = f (d.line n) := by simp [Device.modLine_line]

@[simp] theorem Device.modLine_line_other (d : Device) (n m : LineId) (f : Line → Line) (h : m ≠ n) :
    (d.modLine n f).line m = d.line m := by simp [Device.modLine_line, h]

theorem Device.modPlayer_player (d : Device) (n m : PlayerId) (f : Player → Player) :
    (d.modPlayer n f).player m = if m = n then f (d.player n) else d.player m := by
  simp only [Device.modPlayer, Device.player, Vector.get_eq_getElem, Vector.getElem_set, Fin.ext_iff, eq_comm]

@[simp] theorem Device.modPlayer_player_self (d : Device) (n : PlayerId) (f : Player → Player) :
    (d.modPlayer n f).player n = f (d.player n) := by simp [Device.modPlayer_player]

@[simp] theorem Device.modPlayer_player_other (d : Device) (n m : PlayerId) (f : Player → Player) (h : m ≠ n) :
    (d.modPlayer n f).player m = d.player m := by simp [Device.modPlayer_player, h]

theorem Device.modQueue_queue (d : Device) (n m : CqId) (f : Queue → Queue) :
    (d.modQueue n f).queue m = if m = n then f (d.queue n) else d.queue m := by
  simp only [Device.modQueue, Device.queue, Vector.get_eq_getElem, Vector.getElem_set, Fin.ext_iff, eq_comm]

@[simp] theorem Device.modQueue_queue_self (d : Device) (n : CqId) (f : Queue → Queue) :
    (d.modQueue n f).queue n = f (d.queue n) := by simp [Device.modQueue_queue]

@[simp] theorem Device.modQueue_queue_other (d : Device) (n m : CqId) (f : Queue → Queue) (h : m ≠ n) :
    (d.modQueue n f).queue m = d.queue m := by simp [Device.modQueue_queue, h]

@[simp] theorem Device.mapLines_line (d : Device) (f : LineId → Line → Line) (l : LineId) :
    (d.mapLines f).line l = f l (d.line l) := by
  simp only [Device.mapLines, Device.line, Vector.get_eq_getElem, Vector.getElem_ofFn, Fin.eta]

end Sys2Proof.Machine
end

