-- ==== Sys2Proof/Laws/Settle.lean ====
section
/-! SUPPORT. When nothing urgent is pending a command is taken as it stands; and what `settle` can do otherwise. -/

namespace Sys2Proof.Machine

/-- `calm` says that no urgent event of the kinds listed is pending. -/
theorem calm_iff (due : Bool) (us : List Urgency) (d : Device) : calm due us d = true ↔ urgent due us d = none := by
  simp [calm]

theorem settleLoop_of_calm {due : Bool} {us : List Urgency} {d : Device} (h : calm due us d = true) (k : Nat) :
    settleLoop due us k d = d := by
  have hn := (calm_iff due us d).mp h
  cases k <;> simp [settleLoop, hn]

/-- With nothing urgent pending, `settle` changes nothing. -/
theorem settle_of_calm {due : Bool} {us : List Urgency} {d : Device} (h : calm due us d = true) :
    settle due us d = d := settleLoop_of_calm h _

theorem settleLoop_of_one {due : Bool} {us : List Urgency} {d d' : Device} (h : urgent due us d = some d')
    (h' : calm due us d' = true) (k : Nat) : settleLoop due us (k + 1) d = d' := by
  simp only [settleLoop, h]
  exact settleLoop_of_calm h' k

/-- One urgent event that leaves nothing urgent behind is all that `settle` takes. -/
theorem settle_of_one {due : Bool} {us : List Urgency} {d d' : Device} (h : urgent due us d = some d')
    (h' : calm due us d' = true) : settle due us d = d' := settleLoop_of_one h h' 4095

/-- Whatever every urgent event keeps, `settle` keeps. -/
theorem settle_keeps {P : Device → Prop} (due : Bool) (us : List Urgency)
    (step : ∀ (u : Urgency) (d d' : Device), P d → urgentOf u d = some d' → P d')
    (instant : ∀ d : Device, P d → P (expireHead d)) (d : Device) (h : P d) : P (settle due us d) := by
  have loop : ∀ (k : Nat) (d : Device), P d → P (settleLoop due us k d) := by
    intro k
    induction k with
    | zero => intro d h; exact h
    | succ k ih =>
      intro d h
      simp only [settleLoop]
      split
      · exact h
      · next d' hd =>
        simp only [urgent, Option.or_eq_some_iff] at hd
        rcases hd with hd | ⟨_, hd⟩
        · obtain ⟨u, _, hu⟩ := List.exists_of_findSome?_eq_some hd
          exact ih d' (step u d d' h hu)
        · simp only [urgentInstant] at hd
          split at hd
          · cases hd; exact ih _ (instant d h)
          · cases hd
  exact loop _ d h

/-- While an expiry instant is open no arbiter is served (R23, R24). -/
@[simp] theorem afterInstant_of_open {d : Device} (h : d.instantOpen = true) (x : Option Device) :
    afterInstant d x = none := by simp [afterInstant, h]

/-- With no instant open the arbiters are served as they stand. -/
@[simp] theorem afterInstant_of_closed {d : Device} (h : d.instantOpen = false) (x : Option Device) :
    afterInstant d x = x := by simp [afterInstant, h]

/-! ## The outcome of a command -/

/-- While RESET_N is low a command changes nothing (R157). -/
theorem act_of_low {f : Device → Device} {s : State} (h : s.dev.host.resetN = false) : act f s = .next s := by
  simp [act, h]

theorem act_of_high {f : Device → Device} {s : State} (h : s.dev.host.resetN = true) :
    act f s = .next { s with dev := f s.dev } := by simp [act, h]

/-- An event with nothing urgent before it is its own effect. -/
theorem event_of_calm {f : Device → Device} {s : State} (h : s.dev.host.resetN = true)
    (hc : calm false allUrgencies s.dev = true) : event f s = .next { s with dev := f s.dev } := by
  simp [event, act, h, settle_of_calm hc]

/-- With nothing urgent before it but the run of the read arbiter, an event that withdraws requests is its own effect. -/
theorem withdrawalEvent_of_calm {f : Device → Device} {s : State} (h : s.dev.host.resetN = true)
    (hc : calm false allButGrant s.dev = true) : withdrawalEvent f s = .next { s with dev := f s.dev } := by
  simp [withdrawalEvent, act, h, settle_of_calm hc]

/-- What is calm for more kinds of event is calm for fewer. -/
theorem calm_of_subset {due : Bool} {us vs : List Urgency} {d : Device} (h : calm due us d = true)
    (hs : ∀ u ∈ vs, u ∈ us) : calm due vs d = true := by
  rw [calm_iff] at *
  simp only [urgent, Option.or_eq_none_iff, List.findSome?_eq_none_iff] at *
  exact ⟨fun u hu => h.1 u (hs u hu), h.2⟩

/-- With nothing at all urgent pending nothing comes before a CANCEL or a STOP. -/
theorem calm_allButGrant {due : Bool} {d : Device} (h : calm due allUrgencies d = true) :
    calm due allButGrant d = true := calm_of_subset h (by decide)

theorem timeEvent_of_calm {f : Device → Device} {s : State} (h : s.dev.host.resetN = true)
    (hc : calm true allUrgencies s.dev = true) : timeEvent f s = .next { s with dev := f s.dev } := by
  simp [timeEvent, act, h, settle_of_calm hc]

/-- What `act` can do: the part acted on, or nothing while RESET_N is low; the queue is kept. -/
theorem act_cases {f : Device → Device} {s t : State} (h : act f s = .next t) :
    t.pending = s.pending ∧ (t.dev = f s.dev ∨ t.dev = s.dev) := by
  simp only [act, Host.Outcome.next.injEq] at h
  subst h
  refine ⟨rfl, ?_⟩
  dsimp only
  split <;> simp

end Sys2Proof.Machine
end

