-- ==== Sys2Proof/Laws/Ops.lean ====
section
/-! SUPPORT. What each shared operation does, said once: the part of the state it touches, and what it leaves there. -/

namespace Sys2Proof.Machine

/-! ## Fetch tests and consumption -/

/-- A fetch test touches the stream contexts alone. -/
theorem fetchTest_frame (n : StreamId) (d : Device) : fetchTest n d = { d with streams := (fetchTest n d).streams } := by
  unfold fetchTest; split <;> rfl

/-- A fetch test raises the request of its own stream, when R121 asks for one. -/
theorem fetchTest_stream (n m : StreamId) (d : Device) :
    (fetchTest n d).stream m =
      if m = n then (if fetchWanted d.threshold (d.stream n) then { d.stream n with request := .pending }
                     else d.stream n) else d.stream m := by
  unfold fetchTest
  split
  · rw [Device.modStream_stream]
  · split <;> simp_all

/-- A consumption touches the stream contexts alone. -/
theorem consume_frame (n : StreamId) (d : Device) : consume n d = { d with streams := (consume n d).streams } := by
  unfold consume; rw [fetchTest_frame]; rfl

/-- The fetch test in the words of the claims (R121). -/
theorem refetched_eq (threshold : Nat) (x : Stream) :
    x.refetched threshold = if fetchWanted threshold x then { x with request := .pending } else x := by
  unfold Stream.refetched fetchWanted
  simp only [Bool.and_eq_true, Bool.or_eq_true, beq_iff_eq, decide_eq_true_eq, and_assoc]
  rfl

/-- A consumption leaves its stream as R51 and R121 say, and every other stream as it was. -/
theorem consume_stream (n m : StreamId) (d : Device) :
    (consume n d).stream m = if m = n then (d.stream n).consumed d.threshold else d.stream m := by
  unfold consume Stream.consumed
  rw [fetchTest_stream, refetched_eq]
  simp only [Device.modStream_threshold, Device.modStream_stream_self, List.drop_one]
  split
  · rfl
  · simp [*]

/-- The consumption of a control entry touches the control ring processor alone (R160). -/
theorem controlConsume_eq (d : Device) : controlConsume d = { d with ctl := d.ctl.consumed } := by
  unfold controlConsume controlFetchTest Control.consumed
  simp only [Device.modCtl_ctl, List.drop_one, Config.prefetchPlaces, Bool.and_eq_true, beq_iff_eq, decide_eq_true_eq,
    and_assoc]
  split <;> rfl

/-! ## Completions -/

/-- A post touches the holding buffer and the queue contexts alone (R142, R144). -/
theorem post_touches (q : CqId) (c : Completion) (d : Device) :
    (post q c d).tb = d.tb ∧ (post q c d).calendar = d.calendar ∧ (post q c d).reports = d.reports ∧
      (post q c d).lines = d.lines ∧ (post q c d).players = d.players ∧ (post q c d).streams = d.streams ∧
      (post q c d).threshold = d.threshold ∧ (post q c d).ctl = d.ctl ∧ (post q c d).host = d.host ∧
      (post q c d).reads = d.reads ∧ (post q c d).writes = d.writes ∧ (post q c d).edges = d.edges := by
  unfold post addLost; split <;> [skip; split] <;> simp

@[simp] theorem post_stream (q : CqId) (c : Completion) (d : Device) (n : StreamId) :
    (post q c d).stream n = d.stream n := by
  unfold post addLost; split <;> [skip; split] <;> rfl

@[simp] theorem post_line (q : CqId) (c : Completion) (d : Device) (l : LineId) :
    (post q c d).line l = d.line l := by
  unfold post addLost; split <;> [skip; split] <;> rfl

@[simp] theorem post_player (q : CqId) (c : Completion) (d : Device) (p : PlayerId) :
    (post q c d).player p = d.player p := by
  unfold post addLost; split <;> [skip; split] <;> rfl

/-! ## Removals -/

@[simp] theorem removeEntries_calendar (p : Entry → Bool) (d : Device) :
    (removeEntries p d).calendar = d.calendar.filter (fun e => !p e) := rfl
@[simp] theorem removeEntries_reports (p : Entry → Bool) (d : Device) :
    (removeEntries p d).reports = d.reports ++ (d.calendar.filter p).map reportOf := rfl
@[simp] theorem removeEntries_stream (p : Entry → Bool) (d : Device) (n : StreamId) :
    (removeEntries p d).stream n = d.stream n := rfl
@[simp] theorem removeEntries_line (p : Entry → Bool) (d : Device) (l : LineId) :
    (removeEntries p d).line l = d.line l := rfl
@[simp] theorem removeEntries_player (p : Entry → Bool) (d : Device) (k : PlayerId) :
    (removeEntries p d).player k = d.player k := rfl
@[simp] theorem removeEntries_queue (p : Entry → Bool) (d : Device) (q : CqId) :
    (removeEntries p d).queue q = d.queue q := rfl

/-! ## Halts -/

/-- A halt touches the stream contexts, and the calendar only to remove an arm wait's deadline (R98, R127). -/
theorem haltStream_frame (n : StreamId) (d : Device) :
    haltStream n d = { d with calendar := d.calendar.filter (fun e => !isDeadlineOf n e),
                              reports := d.reports ++ (d.calendar.filter (isDeadlineOf n)).map reportOf,
                              streams := (haltStream n d).streams } := rfl

/-- A halt leaves its stream as R127 says. -/
theorem haltStream_stream (n m : StreamId) (d : Device) :
    (haltStream n d).stream m = if m = n then (d.stream n).afterHalt else d.stream m := by
  unfold haltStream endArmWait Stream.afterHalt
  rw [Device.modStream_stream]
  split
  · rw [removeEntries_stream, Device.modStream_stream_self]
    cases (d.stream n).request <;> rfl
  · rw [removeEntries_stream, Device.modStream_stream_other _ _ _ _ (by assumption)]

/-! ## The calendar -/

/-- An insertion adds its entry and loses none. -/
theorem mem_insertEntry (now : Time) (e x : Entry) (l : List Entry) : x ∈ insertEntry now e l ↔ x = e ∨ x ∈ l := by
  induction l with
  | nil => simp [insertEntry]
  | cons y l ih =>
    unfold insertEntry
    split
    · simp only [List.mem_cons, ih]; tauto
    · simp

/-- An insertion makes the list longer by one. -/
theorem length_insertEntry (now : Time) (e : Entry) (l : List Entry) : (insertEntry now e l).length = l.length + 1 := by
  induction l with
  | nil => rfl
  | cons y l ih =>
    unfold insertEntry
    split <;> simp [ih]

/-- A removal makes the list no longer. -/
theorem length_removeEntries (p : Entry → Bool) (d : Device) :
    (removeEntries p d).calendar.length ≤ d.calendar.length := List.length_filter_le _ _

/-! ## Freeing reports -/

/-- The test of a report passes a WAIT, completes a RELEASE, or does nothing (R21). -/
theorem testReport_cases (x : Report) (d : Device) :
    (waitOver d x = true ∧ testReport x d = passWait x.stream d) ∨
      (waitOver d x = false ∧ releaseOver d x = true ∧ testReport x d = completeRelease x.stream d) ∨
      (waitOver d x = false ∧ releaseOver d x = false ∧ testReport x d = d) := by
  unfold testReport
  cases waitOver d x <;> cases releaseOver d x <;> simp

/-- Whatever the test of one report keeps, the test of several keeps. -/
theorem testReports_keeps {P : Device → Prop} (done : Device → Bool)
    (test : ∀ (x : Report) (rest : List Report) (d : Device), P d → P (testReport x { d with reports := rest }))
    (l : List Report) (d : Device) (h : P d) : P (testReports done l d) := by
  induction l generalizing d with
  | nil => exact h
  | cons x rest ih =>
    simp only [testReports]
    split
    · exact test x rest d h
    · exact ih _ (test x rest d h)

/-! ## The grid of a train, and a period of the oscillator -/

/-- How many grid points lie behind, said by the place of the next one (R18, R29, R37). -/
theorem gridPointsBehind_of {now : Time} {g : TrainPart} {back m : Nat} (h : PointsBehind now g back m) :
    gridPointsBehind now g = m := by
  obtain ⟨hp, hb, hm, hm', ahead, hz, ha, he⟩ := h
  have hg : gridPoint g = gridPointAt g 0 := by simp [gridPoint, gridPointAt]
  have hd : dist now (gridPoint g) = (2 ^ 48 - back + ahead) % 2 ^ 48 := by
    rw [hg]
    have e : gridPointAt g 0 - now = BitVec.ofNat 48 ahead - BitVec.ofNat 48 back := by
      rw [sub_eq_sub_iff_add_eq_add, he, add_comm]
    simp only [Machine.dist, e, BitVec.toNat_sub, BitVec.toNat_ofNat]
    omega
  simp only [gridPointsBehind, hd, Config.reinsertionReach, Config.timeModulus]
  rcases hz with rfl | rfl
  · rw [if_pos (by omega)]
    rcases Nat.eq_zero_or_pos m with rfl | h
    · rfl
    · have := Nat.mul_le_mul_right g.period h; omega
  · rcases Nat.eq_zero_or_pos back with rfl | h
    · rw [if_pos (by omega)]
      rcases Nat.eq_zero_or_pos m with rfl | h
      · rfl
      · have := Nat.mul_le_mul_right g.period h; omega
    · rw [if_neg (by omega),
        show 281474976710656 - (2 ^ 48 - back + 0) % 2 ^ 48 + g.period - 1 = back + g.period - 1 by omega]
      refine Nat.div_eq_of_lt_le ?_ ?_
      · omega
      · rw [Nat.succ_mul]; omega

/-- A sample does nothing on a line not in INPUT mode, returns the agreement count to 0, raises it, or is accepted (R76). -/
theorem sampleLine_cases (l : LineId) (level armsFirst : Bool) (d : Device) :
    ((d.line l).mode ≠ .input ∧ sampleLine l level armsFirst d = d) ∨
      ((d.line l).mode = .input ∧ level = (d.line l).filtered ∧
        sampleLine l level armsFirst d = d.modLine l (fun x => { x with agree := 0, sampled := true })) ∨
      ((d.line l).mode = .input ∧ level ≠ (d.line l).filtered ∧ (d.line l).agree < (d.line l).filterLength ∧
        sampleLine l level armsFirst d = d.modLine l (fun x => { x with agree := x.agree + 1, sampled := true })) ∨
      ((d.line l).mode = .input ∧ level ≠ (d.line l).filtered ∧ (d.line l).filterLength ≤ (d.line l).agree ∧
        sampleLine l level armsFirst d = acceptEdge l armsFirst d) := by
  simp only [sampleLine]
  split
  · exact .inl ⟨‹_›, rfl⟩
  · rename_i h
    have h : (d.line l).mode = .input := not_not.mp h
    split
    · exact .inr (.inl ⟨h, ‹_›, rfl⟩)
    · split
      · exact .inr (.inr (.inr ⟨h, ‹_›, ‹_›, rfl⟩))
      · exact .inr (.inr (.inl ⟨h, ‹_›, Nat.lt_of_not_le ‹_›, rfl⟩))

/-- The samples that a period takes are the commands that the claims name. -/
theorem samples_eq (d : Device) : samples d = (samplesDue d).map (fun x => .inputSample x.1 x.2 false) := by
  simp [samples, samplesDue, Line.pinLevel, Function.comp_def]

/-- The period ages every count as the claims say it does. -/
theorem ageCounts_eq (d : Device) : ageCounts d = aged d := rfl

/-- A period that is over leaves every line as it was, but for the mark of its sample. -/
@[simp] theorem aged_line (d : Device) (l : LineId) : (aged d).line l = { d.line l with sampled := false } := by
  simp [aged, Device.line, Vector.get_eq_getElem]

/-! ## EVENT -/

/-- Setting bits of EVENT touches EVENT alone (R167). -/
theorem setEvent_event (m : W32) (d : Device) : (setEvent m d).host.event = d.host.event ||| m := rfl

/-- Attention sets the queue's bit, and stops its coalescing (R147). -/
theorem raiseAttention_does (q : CqId) (d : Device) :
    (raiseAttention q d).host = { d.host with event := d.host.event ||| attnBit q } ∧
      ∀ k, (raiseAttention q d).queue k =
        if k = q then { d.queue q with unsignalled := 0, timer := none } else d.queue k := by
  refine ⟨rfl, fun k => ?_⟩
  exact Device.modQueue_queue d q k (fun c => { c with unsignalled := 0, timer := none })

end Sys2Proof.Machine
end

