-- ==== Sys2Proof/Tests/Slice0.lean ====
section
/-! SUPPORT. Tests: what WellFormed refuses, small steps with results worked by hand from the rules and the examples of
the manual, and for each statement a state that meets its hypotheses. -/

namespace Sys2Proof.Tests

set_option Elab.async false

open Sys2Proof.Machine

/-! ## Builders -/

/-- `n` bytes at byte offset `o` of a record. -/
def put (o n v : Nat) : Record := BitVec.ofNat 256 ((v % 2 ^ (8 * n)) * 2 ^ (8 * o))

/-- A record from its fields: byte offset, length and value. -/
def rec' (fields : List (Nat × Nat × Nat)) : Record := fields.foldl (fun r x => r ||| put x.1 x.2.1 x.2.2) 0

/-- The device ON, with a control ring of 16 at 1000h and CQ0 ACTIVE, of 64 slots at 2000h, C 4 and T 100. -/
def base : Device :=
  ({ Device.reset with
     ctl := { Control.reset with mode := .on, base := 0x1000, size := 16, timeout := 100 } }).modQueue 0 (fun c =>
    { c with state := .active, base := 0x2000, size := 64, countThreshold := 4, timeThreshold := 100 })

/-- S1 configured: a ring of 16 at 4000h, priority 2, quota 64, target CQ0. -/
def configured (s : Stream) : Stream :=
  { s with configured := true, base := 0x4000, size := 16, prio := 2, quota := 64 }

/-- The device with S1 RUNNING and the records `rs` in its prefetch buffer, its tail behind them. -/
def running (rs : List Record) (d : Device) : Device :=
  d.modStream 0 (fun s => { configured s with state := .running, buffer := rs, tail := rs.length })

/-- S1 WAITING for the reason `w` at the record `r`. -/
def waiting (w : WaitReason) (r : Record) (d : Device) : Device :=
  d.modStream 0 (fun s => { configured s with state := .waiting, reason := w, buffer := [r], tail := 1 })

/-- A line in a mode, owned by S1. -/
def owned (l : LineId) (m : LineMode) (d : Device) : Device :=
  d.modLine l (fun x => { x with mode := m, owner := some 0 })

/-- L9 in INPUT mode with a filter of 15. -/
def input (f : Line → Line) (d : Device) : Device :=
  d.modLine 9 (fun x => f { x with mode := .input, filterLength := 15 })

/-- Device time, in the timebase state `m`, with the reference present. -/
def at' (m : TbMode) (t : Time) (d : Device) : Device :=
  d.modTb (fun x => { x with mode := m, now := t, present := true, qual := 4096 })

/-- A calendar entry of S1 on L5, with levels 1. -/
def entry (k : EntryKind) (due : Time) : Entry :=
  { kind := k, stream := 0, prio := 2, tag := 7, due := due, lines := 0x20, levels := 0x20, notify := true, window := 10,
    lateRun := false, lateMark := false, phase := none, train := none, player := none, context := none }

/-- The control ring processor with the entries `es` in its buffer. -/
def control (es : List ControlEntry) (d : Device) : Device :=
  d.modCtl (fun c => { c with buffer := es, tail := es.length })

/-- Every slot of the read table taken. -/
def slotsTaken (d : Device) : Device :=
  { d with
    reads := (List.range 8).map (fun i =>
      { identity := i, issuer := .control, addr := 0, length := 32, timeout := 9, elapsed := 0, orphaned := false }),
    nextRead := 8 }

/-- A completion write outstanding, so that no other is issued. -/
def writerBusy (d : Device) : Device := { d with outstanding := some { identity := 9, queue := 0, overflow := none } }

/-- The state with no command waiting. -/
def st (d : Device) : State := { dev := d, pending := [] }

/-- The part after a command, from a state that answers a next state. -/
def after (c : Instr) (d : Device) : Device :=
  match exec c (st d) with
  | .next t => t.dev
  | .fault _ | .refused _ => d

/-- The part after one period of the internal oscillator. -/
def period (d : Device) : Device :=
  match step (st d) with
  | .next t => t.dev
  | .fault _ | .refused _ => d

/-- Status, tag, line, head and extra fields of each record of the holding buffer. -/
def said (d : Device) : List (Status × Nat × Nat × Nat × Nat × Nat) :=
  d.holding.map (fun h => (h.completion.status, h.completion.tag.toNat, h.completion.line, h.completion.head,
    h.completion.x1.toNat, h.completion.x2.toNat))

/-! ## WellFormed and Decode -/

/-- A read brings at least 8 bytes (10.3). -/
theorem test_short_read_data_refused : (Instr.readDataReturn 0 (List.replicate 7 0)).wellFormed = false := by decide +kernel

/-- A read brings at most 128 bytes (10.3). -/
theorem test_long_read_data_refused : (Instr.readDataReturn 0 (List.replicate 129 0)).wellFormed = false := by decide +kernel

/-- A register write is of 1, 2 or 4 bytes. -/
theorem test_three_byte_write_refused : (Instr.registerWrite 0 3 0).wellFormed = false := by decide +kernel

/-- A word that names CQ0 is no INVALID_SELECTOR (R165). -/
theorem test_valid_selector_refused : (Instr.invalidSelector 0x00100003).wellFormed = false := by decide +kernel

/-- Commands at the bounds are well-formed. -/
theorem test_bounds_well_formed :
    (Instr.readDataReturn 0 (List.replicate 8 0)).wellFormed = true ∧
      (Instr.readDataReturn 0 (List.replicate 128 0)).wellFormed = true ∧
      (Instr.registerWrite 4 4 1).wellFormed = true ∧ (Instr.invalidSelector 0x00140000).wellFormed = true := by decide +kernel

/-- The table gives no row bits, so no word spells a command (98_reader.md). -/
theorem test_no_word_spells_a_command : decodeTableWord 16 0x0102 = none ∧ decodeTableWord 0 0 = none := by decide +kernel

/-! ## Examples of the manual, one step each -/

/-- The distances of the table of 1.2. -/
theorem test_distance_table :
    classify 0xFFFFFFFFFF00 0x100 = .ahead 512 ∧ classify 0xFFFFFFFFFF00 0xFFFFFFFFFE00 = .behind 256 ∧
      classify 0 0x400000000000 = .ahead 70368744177664 ∧ classify 0 0x400000000001 = .outOfHorizon ∧
      classify 0 0xBFFFFFFFFFFF = .outOfHorizon ∧ classify 0 0xC00000000000 = .behind 70368744177664 := by
  decide +kernel

/-- Device time wraps at a tick (R1). -/
theorem test_tick_wraps : (after .tick (at' .running 0xFFFFFFFFFFFF base)).tb.now = 0 := by decide +kernel

/-- With prescale 2 the second edge of the reference is the tick (R1). -/
theorem test_reference_edge_ticks_at_prescale :
    let d := (at' .running 5 base).modTb (fun x => { x with prescale := 2 })
    (after .referenceEdge d).tb.now = 5 ∧ (after .referenceEdge (after .referenceEdge d)).tb.now = 6 := by
  decide +kernel

/-- A gap makes a RUNNING timebase LOST (R8), and the return of the reference makes it RUNNING (R9). -/
theorem test_reference_lost_and_restored :
    let d := after .refGap (at' .running 9 base)
    d.tb.mode = .lost ∧ said d = [(.refLost, 0, 0, 0, 0, 0)] ∧ (after .refQualified d).tb.mode = .running := by
  decide +kernel

/-- A backward TIME_STEP of 5001h from 5000h (the last row of the table of 1.5). -/
theorem test_step_backward_wraps :
    let r := rec' [(0, 1, 0x23), (2, 2, 3), (8, 6, 0xFFFFFFFFAFFF)]
    let d := after .timeStep (control [.record r] (at' .held 0x5000 base))
    d.tb.now = 0xFFFFFFFFFFFF ∧ said d = [(.timeStepped, 3, 0, 1, 0, 0), (.controlDone, 3, 0, 1, 0, 0)] := by
  decide +kernel

/-- A TIME_SET to 2^47 with an entry pending is refused with HORIZON (the second row). -/
theorem test_time_set_out_of_horizon_refused :
    let r := rec' [(0, 1, 0x22), (8, 6, 0x800000000000)]
    let d := after .timeSet (control [.record r] { at' .held 0 base with calendar := [entry .set 1] })
    d.tb.now = 0 ∧ said d = [(.controlRefused, 0, 0, 1, 5, 0)] := by
  decide +kernel

/-- TIME_RUN without a reference makes the timebase LOST, and says so (R4). -/
theorem test_time_run_without_reference :
    let d := after .timeRun (control [.record (rec' [(0, 1, 0x24)])] base)
    d.tb.mode = .lost ∧ said d = [(.controlDone, 0, 0, 1, 2, 0)] := by decide +kernel

/-- TIME_HOLD stops device time (R5). -/
theorem test_time_hold_stops :
    (after .timeHold (control [.record (rec' [(0, 1, 0x25)])] (at' .running 8 base))).tb.mode = .held := by
  decide +kernel

/-- TIME_CONFIG takes a prescale of 256 in HELD (R10). -/
theorem test_time_config_prescale :
    (after .timeConfig (control [.record (rec' [(0, 1, 0x21), (16, 2, 256)])] base)).tb.prescale = 256 := by
  decide +kernel

/-- An entry goes behind those of its due time and priority (R16). -/
theorem test_insertion_behind_equals :
    (insertEntry 1000 (entry .marker 1200) [entry .set 1100, entry .set 1200, entry .set 1201]).map (·.kind) =
      [.set, .set, .marker, .set] := by decide +kernel

/-- Two SETs of one instant on one line: the pin takes the last level alone (R25, the example of 2.4). -/
theorem test_last_set_of_an_instant_stands :
    let d := { owned 5 .output (at' .running 1200 base) with
               calendar := [entry .set 1200, { entry .set 1200 with levels := 0 }] }
    (after .setExpiry d).lines = d.lines ∧ ((after .setExpiry (after .setExpiry d)).line 5).out = false ∧
      (after .setExpiry (after .setExpiry d)).calendar = [] := by decide +kernel

/-- A PULSE of width 100 ends 100 ticks after its START (R28). -/
theorem test_pulse_start_reinserts :
    let d := after .pulseExpiry { owned 5 .output (at' .running 1100 base) with
      calendar := [{ entry .pulse 1100 with phase := some ⟨.start, 100⟩ }] }
    (d.line 5).out = true ∧ d.calendar.map (·.due) = [1200] := by decide +kernel

/-- The train of the example of 2.6: grid points 300 and 400 lie behind 435, and the train is done with 3 driven and 2
missed. -/
theorem test_train_passes_missed_grid_points :
    let e := { entry .train 435 with phase := some ⟨.ending, 10⟩,
                                     train := some { period := 100, remaining := 3, driven := 3, missed := 0, origin := 0 } }
    let d := after .trainExpiry { owned 5 .output (at' .running 435 base) with calendar := [e] }
    d.calendar = [] ∧ said d = [(.done, 7, 5, 0, 3, 2)] := by decide +kernel

/-- The same train across the step from 150 to 380: it goes on at 400 with one pulse left (the example of 2.6). -/
theorem test_step_keeps_the_grid :
    let e := { entry .train 200 with phase := some ⟨.start, 10⟩,
                                     train := some { period := 100, remaining := 3, driven := 2, missed := 0, origin := 0 } }
    let x := stepForward 230 { at' .running 150 base with calendar := [e] }
    x.late = 1 ∧ x.dev.calendar.map (fun e => (e.due, e.train.map (fun g => (g.missed, g.remaining)))) =
      [(400, some (2, 1))] := by decide +kernel

/-- Two steps of 2^46 in HELD with an END pending leave every grid point behind, and the next START stands less than one
period ahead (R29, R37; log 27). -/
theorem test_grid_beyond_horizon :
    let g : TrainPart := { period := 1000, remaining := 0, driven := 1, missed := 0, origin := 0 }
    let now : Time := 140737488355328
    let g' := passGrid now g
    gridPointsBehind now g = 140737488355 ∧ gridPoint g' = 140737488356000 := by decide +kernel

/-- A MARKER posts whatever its notify flag (R30). -/
theorem test_marker_posts_without_notify :
    said (after .markerReached { at' .running 9 base with calendar := [{ entry .marker 9 with notify := false }] }) =
      [(.markerReached, 7, 5, 0, 0, 0)] := by decide +kernel

/-- The walking anchor of 3.2: a MARKER at REL_ADV 2^48 − 480 from anchor 10,500 is skipped, 30 behind, and the anchor
moves to 10,020. -/
theorem test_skipped_marker_moves_anchor :
    let r := rec' [(0, 1, 5), (2, 2, 9), (4, 1, 2), (8, 6, 281474976710176)]
    let d := after (.marker 0) ((running [r] (at' .running 10050 base)).modStream 0 (fun s => { s with anchor := 10500 }))
    said d = [(.lateSkipped, 9, 0, 1, 30, 0)] ∧ (d.stream 0).anchor = 10020 ∧ d.calendar = [] := by decide +kernel

/-- A SET at REL 60 from that anchor is due at 10,080 (the fifth row). -/
theorem test_set_resolves_against_anchor :
    let r := rec' [(0, 1, 2), (4, 1, 1), (8, 6, 60), (16, 4, 0x20)]
    let d := after (.set 0) (owned 5 .output ((running [r] (at' .running 10050 base)).modStream 0 (fun s =>
      { s with anchor := 10020 })))
    d.calendar.map (·.due) = [10080] ∧ (d.stream 0).head = 1 := by decide +kernel

/-- ANCHOR REL 0 sets the anchor to now (the sixth row). -/
theorem test_anchor_takes_now :
    ((after (.anchor 0) (running [rec' [(0, 1, 9), (4, 1, 1)]] (at' .running 10050 base))).stream 0).anchor = 10050 := by
  decide +kernel

/-- A record of an unknown kind halts its stream, unconsumed, with BAD_KIND (R46, R50). -/
theorem test_bad_kind_halts :
    let d := after (.streamBadKind 0) (running [rec' [(0, 1, 0x0E), (2, 2, 4)]] base)
    (d.stream 0).state = .halted ∧ (d.stream 0).head = 0 ∧ said d = [(.streamHalted, 4, 0, 0, 1, 0)] := by decide +kernel

/-- A SET of a line that its stream does not own halts it with NOT_OWNER, the line and the mask (R48, R50). -/
theorem test_not_owner_halts :
    said (after (.set 0) (running [rec' [(0, 1, 2), (16, 4, 0x60)]] (owned 5 .output base))) =
      [(.streamHalted, 0, 6, 0, 3, 0x40)] := by decide +kernel

/-- The CANCEL of the example of 3.8, without FINISH: the PULSE in phase END and the MARKER go, the SET of another tag
stays, the PULSE's line goes low at once, and the completions come in order. -/
theorem test_cancel_example :
    let pulse := { entry .pulse 5100 with tag := 0x21, lines := 0x40, levels := 0x40, phase := some ⟨.ending, 200⟩ }
    let marker := { entry .marker 7000 with tag := 0x21, lines := 0, levels := 0 }
    let set := { entry .set 6000 with tag := 0x30, lines := 0x100 }
    let r := rec' [(0, 1, 0x0D), (1, 1, 1), (2, 2, 0x20), (14, 2, 0xFFF0)]
    let d := after (.cancel 0) ((running [r] { owned 6 .output (at' .running 5000 base) with
      calendar := [pulse, set, marker] }).modLine 6 (fun x => { x with out := true }))
    d.calendar = [set] ∧ (d.line 6).out = false ∧
      said d = [(.cancelled, 0x21, 6, 1, 1, 0), (.cancelled, 0x21, 0, 1, 0, 0), (.cancelDone, 0x20, 0, 1, 2, 0)] := by
  decide +kernel

/-- With FINISH the PULSE in phase END stays (R62). -/
theorem test_cancel_finish_keeps_pulse :
    let pulse := { entry .pulse 5100 with phase := some ⟨.ending, 200⟩ }
    let r := rec' [(0, 1, 0x0D), (1, 1, 5), (2, 2, 7), (14, 2, 0xFFFF)]
    let d := after (.cancel 0) (running [r] { at' .running 5000 base with calendar := [pulse] })
    d.calendar = [pulse] ∧ said d = [(.cancelDone, 7, 0, 1, 0, 1)] := by decide +kernel

/-- CLAIM of a free line and an owned one (R70). -/
theorem test_claim_says_new_and_owned :
    said (after (.claim 0) (running [rec' [(0, 1, 0x0B), (1, 1, 1), (16, 4, 0x60)]] (owned 5 .output base))) =
      [(.done, 0, 5, 1, 0x40, 0x20)] := by decide +kernel

/-- RELEASE waits for a train on one of its lines, and goes through when it has been freed (R72, R73, the example of
4.5). -/
theorem test_release_waits_for_train :
    let r := rec' [(0, 1, 0x0C), (1, 1, 1), (16, 4, 0x20)]
    let d := after (.release 0) (running [r] { owned 5 .output (at' .running 8000 base) with
      calendar := [entry .train 8400] })
    let d' := after (.releaseComplete 0) { d with calendar := [], reports := [reportOf (entry .train 8400)] }
    (d.stream 0).reason = .release ∧ (d.line 5).owner = some 0 ∧ (d'.line 5).owner = none ∧
      said d' = [(.done, 0, 5, 1, 1, 0)] := by decide +kernel

/-- Two reports of one event: the WAIT passes at the last of them alone (R60). -/
theorem test_wait_passes_at_last_report :
    let r := rec' [(0, 1, 0x0A), (1, 1, 1), (2, 2, 7), (14, 2, 0xFFFF)]
    let x := reportOf (entry .set 9)
    let d := { waiting .barrier r base with reports := [x, x] }
    let d1 := testReport x { d with reports := [x] }
    (d1.stream 0).state = .waiting ∧ ((testReport x { d1 with reports := [] }).stream 0).state = .running := by
  decide +kernel

/-- The filter of length 2 of the example of 4.7: samples 4 to 6. -/
theorem test_filter_of_length_two :
    let d := base.modLine 9 (fun x => { x with mode := .input, filterLength := 2 })
    let d1 := after (.inputSample 9 true false) d
    let d2 := after (.inputSample 9 true false) d1
    let d3 := after (.inputSample 9 true false) d2
    ((d1.line 9).agree, (d2.line 9).agree, (d2.line 9).filtered, (d3.line 9).agree, (d3.line 9).filtered) =
      (1, 2, false, 0, true) := by decide +kernel

/-- The same filter in a period of the oscillator (R75): samples 5 and 6 of the example are taken by the clock, and a
period that has had its sample takes no other. -/
theorem test_period_samples_the_pin :
    let d (n : Nat) (b : Bool) := base.modLine 9 (fun x =>
      { x with mode := .input, filterLength := 2, agree := n, sampled := b })
    let x (d : Device) := ((period d).line 9, (period d).tb.gap)
    x (d 1 false) = ({ (d 2 false).line 9 with agree := 2 }, 1) ∧
      x (d 2 false) = ({ (d 0 false).line 9 with filtered := true }, 1) ∧ x (d 1 true) = ((d 1 false).line 9, 1) := by
  decide +kernel

/-- The last edge of the capture of the example of 5.4: the count limit is reached, the end entry removed, and
CAPTURE_DONE follows. -/
theorem test_capture_ends_by_count :
    let c : Capture := { stream := 0, tag := 0x51, edges := .both, limit := 4, captured := 3, missed := 0, notify := true }
    let d := after (.edgeEvent 9 false) (({ at' .running 11100 base with
        calendar := [{ entry .captureEnd 20000 with context := some (.capture 9) }] }).modLine 9 (fun x =>
      { x with mode := .input, filtered := true, capture := some c }))
    d.calendar = [] ∧ (d.line 9).capture = none ∧
      said d = [(.captureEdge, 0x51, 9, 0, 4, 0), (.captureDone, 0x51, 9, 0, 4, 0)] := by decide +kernel

/-- Case A of the example of 5.5: the edge at 50,640 fires the wait, the anchor takes its time and the deadline goes. -/
theorem test_arm_fires_before_deadline :
    let w : ArmWait := { line := 14, tag := 3, edges := .rising, notify := true, haltOnTimeout := false }
    let d := ({ waiting .arm (rec' [(0, 1, 8)]) (at' .running 50640 base) with
      calendar := [{ entry .armDeadline 51000 with context := some .armWait }] }).modStream 0 (fun s =>
        { s with armWait := some w })
    let d' := after (.armFired 0) (after (.edgeEvent 14 false) (d.modLine 14 (fun x => { x with mode := .input })))
    (d'.stream 0).anchor = 50640 ∧ (d'.stream 0).state = .running ∧ d'.calendar = [] ∧
      said d' = [(.armFired, 3, 14, 1, 0, 0)] := by decide +kernel

/-- Case B: the deadline at 51,000 sets the anchor. -/
theorem test_arm_deadline_sets_anchor :
    let w : ArmWait := { line := 14, tag := 3, edges := .rising, notify := true, haltOnTimeout := false }
    let d := ({ waiting .arm (rec' [(0, 1, 8)]) (at' .running 51000 base) with
      calendar := [{ entry .armDeadline 51000 with context := some .armWait }] }).modStream 0 (fun s =>
        { s with armWait := some w })
    let d' := after .armTimeout d
    (d'.stream 0).anchor = 51000 ∧ (d'.stream 0).state = .running ∧ said d' = [(.armTimeout, 3, 14, 1, 0, 0)] := by
  decide +kernel

/-- The pattern of the example of 6.3: the priming read of 12 steps leaves 5, up to END, and asks for 8 more. -/
theorem test_steps_up_to_end :
    let step (last : Nat) : List Byte := leBytes 3 100 ++ leBytes 1 1 ++ leBytes 1 last ++ leBytes 3 0
    let data := (List.replicate 4 (step 0)).flatten ++ step 1 ++ (List.replicate 7 (step 0)).flatten
    let d := { base with reads := [{ identity := 0, issuer := .player 0, addr := 0, length := 96, timeout := 9,
                                     elapsed := 0, orphaned := false }] }
    let d := after (.readDataReturn 0 data) (d.modPlayer 0 (fun pl =>
      { pl with state := .priming, stream := some 0, steps := 12, repeats := 2, begun := 1, request := .inFlight 12 }))
    ((d.player 0).buffer.length, (d.player 0).begun, (d.player 0).cursor, (d.player 0).request, (d.player 0).asked) =
      (5, 2, 0, .pending, 8) := by decide +kernel

/-- An empty buffer at a step is an UNDERRUN, and a player with its read in flight is RETIRING (R110, R112). -/
theorem test_underrun_retires :
    let d := ({ at' .running 9 base with calendar := [{ entry .patternStep 9 with player := some 0 }] }).modPlayer 0 (fun pl =>
      { pl with state := .playing, stream := some 0, tag := 6, lines := 0x20, applied := 8, request := .inFlight 8 })
    let d' := after .patternStepExpiry d
    (d'.player 0).state = .retiring ∧ said d' = [(.underrun, 6, 5, 0, 8, 0)] := by decide +kernel

/-- The grant after a tail write of 6 is for min(4, 6, 16) records (the example of 7.4). -/
theorem test_grant_of_four_records :
    let d := after (.tailWrite 0 6) (running [] base)
    let d' := after .readGrant d
    (d.stream 0).request = .pending ∧ (d'.stream 0).request = .inFlight 4 ∧
      d'.reads.map (fun x => (x.addr, x.length)) = [(0x4000, 128)] := by decide +kernel

/-- A request is granted before the next command, a slot being free (R170). -/
theorem test_grant_before_next_command :
    ((after .cNop (after (.tailWrite 0 6) (running [] base))).stream 0).request = .inFlight 4 := by decide +kernel

/-- A read of S1 returns and a refetch is wanted: a STOP at the same instant finds no read and passes to IDLE; behind the
grant of the new read it leaves the stream in STOPPING (R134). -/
theorem test_stop_meets_returning_read :
    let d := { (running [] base).modStream 0 (fun x => { x with request := .inFlight 1, tail := 6 }) with
               reads := [{ identity := 0, issuer := .stream 0, addr := 0x4000, length := 32, timeout := 9, elapsed := 0,
                           orphaned := false }], nextRead := 1 }
    let d := after (.readDataReturn 0 (List.replicate 32 0)) d
    (d.stream 0).request = .pending ∧ ((after (.stop 0) d).stream 0).state = .idle ∧
      (after (.registerWrite 0x1C 4 1) d).reads = [] ∧ said (after (.stop 0) d) = [(.streamStopped, 0, 0, 0, 0, 0)] ∧
      ((after (.stop 0) (after .readGrant d)).stream 0).state = .stopping := by decide +kernel

/-- A read of a player returns and a refill is wanted (N 4, R 2): a CANCEL at the same instant makes the player FREE;
behind the grant of the refill it makes it RETIRING (R113). -/
theorem test_cancel_meets_returning_read :
    let r : Record := rec' [(0, 1, 0x0D), (2, 2, 7), (14, 2, 0xFFFF)]
    let d : Device := { running [r] base with
      calendar := [{ entry .patternStep 9 with player := some 0 }],
      reads := [{ identity := 0, issuer := .player 0, addr := 0, length := 32, timeout := 9, elapsed := 0,
                  orphaned := false }], nextRead := 1 }
    let d := d.modPlayer 0 (fun pl => { pl with state := .priming, stream := some 0, tag := 7, steps := 4, repeats := 2,
                                                begun := 1, request := .inFlight 4 })
    let d := after (.readDataReturn 0 (List.replicate 4 (leBytes 3 100 ++ leBytes 5 1)).flatten) d
    (d.player 0).request = .pending ∧ (d.player 0).buffer.length = 4 ∧ ((after (.cancel 0) d).player 0).state = .free ∧
      ((after (.stop 0) d).player 0).state = .free ∧ ((after .disable d).player 0).state = .free ∧
      ((after (.cancel 0) (after .readGrant d)).player 0).state = .retiring := by decide +kernel

/-- A tail equal to the ring size is refused with BAD_TAIL and the index (R120, R128). -/
theorem test_bad_tail_halts :
    said (after (.tailWrite 0 16) (running [] base)) = [(.streamHalted, 0, 0, 0, 8, 16)] := by decide +kernel

/-- A STOP with nothing in flight: the line goes to its safe level, and STREAM_STOPPED gives the head, the work and the
lines (R132, R133). -/
theorem test_stop_gives_up_lines :
    let d := after (.stop 0) ((owned 6 .output { running [] base with calendar := [entry .train 9] }).modStream 0 (fun s =>
      { s with head := 2, tail := 2 }) |>.modLine 6 (fun x => { x with safe := true }))
    (d.line 6).out = true ∧ (d.line 6).owner = none ∧ d.calendar = [] ∧ (d.stream 0).state = .idle ∧
      said d = [(.streamStopped, 0, 0, 2, 1, 0x40)] := by decide +kernel

/-- A START of a stream that is not configured is ignored (R131). -/
theorem test_start_unconfigured_ignored : (after (.start 3) base).host.event = 0x400 := by decide +kernel

/-- A lost completion becomes the prefix of the next one, which the writer writes first as an OVERFLOW (R144, R145). -/
theorem test_overflow_written_first :
    let d := base.modQueue 0 (fun c => { c with lost := 3 })
    let d := after .completionWriteIssue (after .cNop (control [.record (rec' [(0, 1, 0x20)])] d))
    d.holding.length = 1 ∧ (d.queue 0).lost = 0 ∧
      d.writes.map (fun w => (w.addr, w.data.take 4, w.data.drop 16 |>.take 4)) =
        [(0x2000, [1, 0x0F, 0, 0x11], [3, 0, 0, 0])] := by decide +kernel

/-- The fault of the example of 8.6, on CQ0: the held CAPTURE_EDGE is discarded without a count, the failed DONE counts
one, and attention is raised for u = 3. -/
theorem test_fault_counts_losses :
    let held : Held := { queue := 0, overflow := none, completion := plainCompletion (.stream 0) 7 .captureEdge 0 0 9 0 1 0 }
    let w : Write := { identity := 4, writer := .completion, addr := 0x2280, data := [], timeout := 9, elapsed := 0,
                       orphaned := false }
    let d := after (.writeBusError 4) (({ base with
      holding := [held], writes := [w], outstanding := some { identity := 4, queue := 0, overflow := none } }).modQueue 0
        (fun c => { c with tail := 20, unsignalled := 3 }))
    ((d.queue 0).state, (d.queue 0).lost, (d.queue 0).unsignalled, (d.queue 0).tail, d.holding, d.host.event) =
      (.faulted, 1, 0, 20, [], 0x11) := by decide +kernel

/-- The fourth record of a queue with C = 4 raises attention (R147). -/
theorem test_count_threshold_raises_attention :
    let w : Write := { identity := 4, writer := .completion, addr := 0, data := [], timeout := 9, elapsed := 0,
                       orphaned := false }
    let d := after (.writeSuccess 4) (({ base with
      writes := [w], outstanding := some { identity := 4, queue := 0, overflow := none } }).modQueue 0 (fun c =>
        { c with tail := 63, unsignalled := 3 }))
    ((d.queue 0).tail, (d.queue 0).phase, (d.queue 0).unsignalled, d.host.event) = (0, false, 0, 1) := by decide +kernel

/-- Clearing attention with one unsignalled record starts the timer, whose end raises attention again (the example of
8.5). -/
theorem test_attention_cleared_and_raised_again :
    let d := after (.attnClear 0) (({ base with host := { base.host with event := 1 } }).modQueue 0 (fun c =>
      { c with unsignalled := 1 }))
    (d.queue 0).timer = some 0 ∧ d.host.event = 0 ∧ (after (.coalescingTimeout 0) d).host.event = 1 := by decide +kernel

/-- A head write past the device tail is ignored (R141). -/
theorem test_head_past_tail_ignored : (after (.headWrite 0 1) base).host.event = 0x400 := by decide +kernel

/-- The bootstrap block of 12.4 brings the device ON with the control ring and CQ0 of the block (R153). -/
theorem test_boot :
    let block := leBytes 4 0x5A423208 ++ leBytes 2 1 ++ leBytes 2 0 ++ leBytes 8 0x1000 ++ leBytes 2 256 ++ leBytes 2 0 ++
      leBytes 2 500 ++ leBytes 2 0 ++ leBytes 8 0x4000 ++ leBytes 2 64 ++ leBytes 1 8 ++ leBytes 1 0 ++ leBytes 2 50 ++
      leBytes 26 0
    let d := after (.readDataReturn 0 block) (after .readGrant (after .enable Device.reset))
    (d.ctl.mode, d.ctl.base, d.ctl.size, d.ctl.timeout, d.host.event, (d.queue 0).base, (d.queue 0).countThreshold) =
      (.on, 0x1000, 256, 500, 0x100, 0x4000, 8) := by decide +kernel

/-- A write of BOOT_ADDR before the grant changes the address read, and one after it does not (R152). -/
theorem test_boot_address_before_grant :
    let d := after (.registerWrite 0x10 4 7) (after (.registerWrite 0x0C 4 0x140) (after .enable Device.reset))
    let d := after (.registerWrite 0x0C 4 0x80) (after .readGrant d)
    d.reads.map (fun x => (x.addr, x.length)) = [(0x700000140, 64)] ∧ d.host.bootAddr = 0x700000080 := by decide +kernel

/-- A timeout of the bootstrap read fails the boot (R152). -/
theorem test_boot_timeout_fails :
    let d := after (.readTimeout 0) (after .readGrant (after .enable Device.reset))
    d.ctl.mode = .failed ∧ d.host.event = 0x200 := by decide +kernel

/-- CONFIGURE_LINE to OUTPUT drives the safe level, and says it (R68). -/
theorem test_configure_line_output :
    let r := rec' [(0, 1, 0x28), (4, 1, 31), (5, 1, 1), (6, 1, 1)]
    let d := after (.configureLine false) (control [.record r] base)
    pin d 31 = some true ∧ said d = [(.controlDone, 0, 31, 1, 1, 0)] := by decide +kernel

/-- CONFIGURE_STREAM of S8 with quota 512 and priority 7 (R118). -/
theorem test_configure_stream :
    let r := rec' [(0, 1, 0x26), (4, 1, 8), (5, 1, 7), (8, 8, 0x8000), (16, 2, 4096), (18, 2, 512)]
    let d := after .configureStream (control [.record r] base)
    ((d.stream 7).configured, (d.stream 7).size, (d.stream 7).prio, (d.stream 7).quota) = (true, 4096, 7, 512) ∧
      said d = [(.controlDone, 0, 0, 1, 8, 0)] := by decide +kernel

/-- CONFIGURE_CQ of a queue that is ACTIVE is refused with CQ_BUSY (R138). -/
theorem test_configure_cq_busy :
    let r := rec' [(0, 1, 0x27), (5, 1, 1), (8, 8, 0x8000), (16, 2, 16)]
    said (after .configureCq (control [.record r] base)) = [(.controlRefused, 0, 0, 1, 10, 0)] := by decide +kernel

/-- SET_THRESHOLD withdraws the request of a stream below it (R119). -/
theorem test_threshold_withdraws :
    let r := rec' [(0, 1, 0x29), (4, 1, 3)]
    let d := after .setThreshold (control [.record r] ((running [] (slotsTaken base)).modStream 0 (fun s =>
      { s with tail := 4, request := .pending })))
    (d.stream 0).request = .idle ∧ said d = [(.controlDone, 0, 0, 1, 3, 0)] := by decide +kernel

/-- A QUERY issues its four writes, and is consumed at the fourth response with the one failure (R162). -/
theorem test_query_counts_failures :
    let d := after .query (control [.record (rec' [(0, 1, 0x2A), (2, 2, 6), (8, 8, 0x9000)])] base)
    let d' := after (.snapshotWriteResponse 0 true) (after (.snapshotWriteResponse 1 false)
      (after (.snapshotWriteResponse 2 true) (after (.snapshotWriteResponse 3 true) d)))
    d.writes.map (fun w => (w.addr, w.data.length)) = [(0x9000, 128), (0x9080, 128), (0x9100, 128), (0x9180, 128)] ∧
      said (after .queryConsumed d') = [(.controlRefused, 6, 0, 1, 12, 1)] := by decide +kernel

/-- DISABLE with nothing under way is the passage to OFF (R155). -/
theorem test_disable_passes_to_off :
    (after .disable base).ctl.mode = .off ∧ ((after .disable base).queue 0).state = .unconfigured := by decide +kernel

/-- A soft reset orphans a read in flight, and ENABLE is ignored until it has ended (R156). -/
theorem test_soft_reset_orphans :
    let d := after .softReset (after .readGrant (after .enable Device.reset))
    d.reads.map (·.orphaned) = [true] ∧ (after .enable d).host.event = 0x400 ∧
      (after .enable (after (.readBusError 0) d)).ctl.mode = .loading := by decide +kernel

/-- TIME_LO latches the high half that TIME_HI shows (R13). -/
theorem test_time_lo_latches :
    let d := after .timeLoRead (at' .running 0x123456789ABC base)
    d.host.readData = 0x56789ABC ∧ readRegister d 0x30 = 0x1234 := by decide +kernel

/-- The interrupt pin follows EVENT and EVENT_MASK (R168). -/
theorem test_interrupt_pin :
    let d := after (.eventMaskWrite 0xFFFFFFFF) { base with host := { base.host with event := 0x400 } }
    d.host.eventMask = 0x7FF ∧ intAsserted d = true ∧ intAsserted (after (.eventClear 0x400) d) = false := by
  decide +kernel

/-- A 16-bit write of CONTROL does nothing (R164). -/
theorem test_narrow_write_ignored : after (.registerWrite 4 2 2) base = base := by decide +kernel

/-! ## Witnesses: for each statement with hypotheses, states and operands that meet them, clause by clause -/

/-- Nothing urgent is pending. -/
theorem settled_st {d : Device} (h : (d.host.resetN && calm false allUrgencies d) = true) : Settled (st d) := by
  simpa [Settled, SettledFor, st] using h

/-- Nothing urgent is pending and nothing is due now. -/
theorem settledNow_st {d : Device} (h : (d.host.resetN && calm true allUrgencies d) = true) : SettledNow (st d) := by
  simpa [SettledNow, SettledNowFor, st] using h

/-- S1 admits the record `r`. -/
theorem admits_st {d : Device} {k : StreamKind} {r : Record}
    (h : (d.host.resetN && calm false allUrgencies d && (d.stream 0).state == .running &&
      (d.stream 0).buffer.head? == some r && streamKindOf (StreamRecord.kind r) == some k && fieldsOk k r) = true) :
    Admits (st d) 0 k r := by
  simpa [Admits, AdmitsFor, SettledFor, st, and_assoc] using h

/-- Nothing urgent but the run of the read arbiter is pending, and nothing is due now. -/
theorem withdrawing_st {d : Device} (h : (d.host.resetN && calm true allButGrant d) = true) :
    SettledNowFor allButGrant (st d) := by simpa [SettledNowFor, st] using h

/-- The control ring processor takes the record `r`. -/
theorem takes_st {d : Device} {k : ControlKind} {r : Record}
    (h : (d.ctl.mode == .on && d.ctl.query == none && d.ctl.buffer.head? == some (.record r) &&
      controlKindOf (StreamRecord.kind r) == some k && reservedClear k r) = true) : Takes (st d) k r := by
  simpa [Takes, st, and_assoc] using h

theorem kept_present {now : Time} {w : Nat} {b : Bool} : KeptDue now now w b now false :=
  .inl ⟨.inl (by simp [classify, Machine.dist]), rfl, rfl⟩

theorem kept_ahead {now t : Time} {k w : Nat} {b : Bool} (h : classify now t = .ahead k) : KeptDue now t w b t false :=
  .inl ⟨.inr ⟨k, h⟩, rfl, rfl⟩

theorem kept_window {now t : Time} {p w : Nat} {b : Bool} (h : classify now t = .behind p) (hp : p ≤ w) :
    KeptDue now t w b now false := .inr ⟨p, h, rfl, .inl ⟨hp, rfl⟩⟩

theorem kept_late {now t : Time} {p w : Nat} (h : classify now t = .behind p) (hp : w < p) :
    KeptDue now t w true now true := .inr ⟨p, h, rfl, .inr ⟨hp, rfl, rfl⟩⟩

theorem witness_StepTakesFrontCommand : (State.reset.withCommand (some .tick)).pending = .tick :: [] := rfl

/-- A line whose filter of length 15 has seen 14 samples of a new level, and the gap count below, at and above its limit. -/
theorem witness_IdlePeriodRaisesGapCount :
    let d (n : Nat) := (input (fun x => { x with agree := 14 }) base).modTb (fun x => { x with gap := n })
    let c : Instr := .inputSample 9 true false
    let v (n : Nat) := after c (d n)
    SettledNow (st (d 62)) ∧
      ((d 62).reads = [] ∧ (d 62).writes = [] ∧ (∀ q, ((d 62).queue q).timer = none) ∧ (d 62).tb.gap < 63 ∧
        ((d 62).line 9).mode = .input ∧ ((d 62).line 9).sampled = false ∧ ((d 62).line 9).agree ≠ 0 ∧
        (∀ l, ((d 62).line l).agree < ((d 62).line l).filterLength ∨ ((d 62).line l).agree = 0) ∧
        (∀ n ∈ [62, 63, 64], (d n).host.resetN = true ∧ samples (d n) = [c] ∧
          (settle true allUrgencies (v n)).tb.gap = n)) ∧
      (∀ n, runAll [c] (st (d n)) = .next (st (v n))) ∧ exec .refGap (st (v 63)) = .next (st (after .refGap (v 63))) :=
  ⟨settledNow_st (by decide +kernel), by decide +kernel, fun _ => rfl, rfl⟩

/-- Every table full, every count at its bound. -/
def brim : Device :=
  let d := { at' .running 0xFFFFFFFFFFFF base with
    calendar := List.replicate 512 { entry .pulse 9 with phase := some ⟨.start, 4294967295⟩ },
    holding := List.replicate 64 { queue := 0, overflow := none, completion := plainCompletion .control 0 .done 0 0 0 0 0 0 },
    host := { base.host with event := 0x7FF, eventMask := 0x7FF } }
  (((((slotsTaken d).modStream 0 (fun x => { configured x with state := .halted, quota := 512 })).modTb (fun x => { x with prescale := 256, divider := 255, gap := 64 })).modLine 31 (fun x =>
      { x with mode := .input, filterLength := 15, agree := 15, filtered := true })).modStream 7 (fun x =>
        { x with state := .waiting, reason := .space, buffer := [rec' [(0, 1, 2), (16, 4, 0x20)]] })).modQueue 0 (fun x =>
          { x with lost := 0xFFFFFFFF, unsignalled := 255, timer := some 0 })

/-- For each of the invariants that every step keeps. -/
theorem witness_StepKeeps : HoldingWf brim ∧ ReadsWf brim ∧ CalendarWf brim ∧ TimebaseWf brim ∧ LinesWf brim ∧
    WaitsWf brim ∧ EventWf brim ∧ QueuesWf brim ∧ QuotaWf brim ∧ DueWf brim ∧ ∃ t, step (st brim) = .next t := by
  refine ⟨?_, ?_, ?_, ?_, ?_, ?_, ?_, ?_, ?_, ?_, _, rfl⟩
  · unfold HoldingWf; decide +kernel
  · unfold ReadsWf; decide +kernel
  · unfold CalendarWf; decide +kernel
  · unfold TimebaseWf; decide +kernel
  · unfold LinesWf Line.Wf; decide +kernel
  · unfold WaitsWf; decide +kernel
  · unfold EventWf; decide +kernel
  · unfold QueuesWf; decide +kernel
  · unfold QuotaWf; decide +kernel
  · refine ⟨by decide +kernel, by decide +kernel, by decide +kernel, by decide +kernel, fun n _ hr => ?_⟩
    obtain rfl : n = 7 := by revert hr; revert n; decide +kernel
    exact ⟨rec' [(0, 1, 2), (16, 4, 0x20)], .set, by decide +kernel⟩

theorem witness_InsertionKeepsListOrder :
    [entry .set 5, { entry .set 6 with prio := 7 }, entry .set 6].Pairwise (fun a b => staysAhead 5 a b = true) := by
  decide +kernel

theorem witness_CompletionBytesLayout :
    (plainCompletion .device 0 .overflow 0 0 31 65535 0 0).line < 32 ∧
      (plainCompletion .device 0 .overflow 0 0 31 65535 0 0).head < 65536 := by decide +kernel

theorem witness_TickAdvancesDeviceTime : SettledNow (st (at' .running 5 base)) ∧ (at' .running 5 base).tb.mode = .running :=
  ⟨settledNow_st (by decide +kernel), rfl⟩

theorem witness_ReferenceEdgeCounts :
    let d (m : TbMode) (f : Timebase → Timebase) := (at' m 5 base).modTb f
    let d1 := d .running (fun x => { x with prescale := 256, divider := 254 })
    let d2 := d .running (fun x => { x with prescale := 256, divider := 255 })
    let d3 := d .held id
    let absent (m : TbMode) (n : Nat) := d m (fun x => { x with present := false, qual := n })
    (SettledNow (st d1) ∧ SettledNow (st d2) ∧ SettledNow (st d3) ∧ SettledNow (st (absent .held 4094)) ∧
      SettledNow (st (absent .held 4095)) ∧ SettledNow (st (absent .lost 4095))) ∧
      d1.tb.divider + 1 < d1.tb.prescale ∧ d2.tb.divider + 1 = d2.tb.prescale ∧ d1.tb.present = true ∧
      d2.tb.present = true ∧ d1.tb.mode = .running ∧ d2.tb.mode = .running ∧ d3.tb.mode ≠ .running ∧
      d3.tb.present = true ∧ (absent .held 4094).tb.mode ≠ .running ∧ (absent .held 4094).tb.present = false ∧
      (absent .held 4094).tb.qual + 1 < 4096 ∧ 4096 ≤ (absent .lost 4095).tb.qual + 1 :=
  ⟨⟨settledNow_st (by decide +kernel), settledNow_st (by decide +kernel), settledNow_st (by decide +kernel),
    settledNow_st (by decide +kernel), settledNow_st (by decide +kernel), settledNow_st (by decide +kernel)⟩,
    by decide +kernel⟩

theorem witness_ReferenceIsLostAndRestored :
    let d (m : TbMode) (b : Bool) := (at' m 5 base).modTb (fun x => { x with present := b })
    SettledNow (st (d .running true)) ∧ SettledNow (st (d .held false)) ∧ SettledNow (st (d .held true)) ∧
      Settled (st (d .lost false)) ∧ Settled (st (d .held false)) ∧ (d .held true).tb.mode ≠ .running ∧
      (d .lost false).tb.present = false ∧ (d .running true).tb.present = true ∧ (d .running true).tb.mode = .running :=
  ⟨settledNow_st (by decide +kernel), settledNow_st (by decide +kernel), settledNow_st (by decide +kernel),
    settled_st (by decide +kernel), settled_st (by decide +kernel), by decide +kernel⟩

theorem witness_TimeLoReadLatchesHighHalf :
    (st base).dev.host.resetN = true ∧ (st (pinReset base)).dev.host.resetN = false := by decide +kernel

/-! ### Expiries -/

/-- RUNNING at 1200 with the entry `e` at the head of the calendar. -/
def expiry (e : Entry) (rest : List Entry) : Device := { at' .running 1200 base with calendar := e :: rest }

/-- The entry is due now at the head. -/
theorem atHead_st {d : Device} {e : Entry} {rest : List Entry}
    (h : (d.host.resetN && calm false beforeExpiry d && d.tb.mode == .running && d.calendar == e :: rest &&
      e.due == d.tb.now) = true) : AtHead (st d) e rest := by
  simpa [AtHead, SettledFor, st, and_assoc] using h

/-- The same within an instant that has begun, with a level to drive on L6 standing by. -/
def within (d : Device) : Device := { d with instantOpen := true, stagedMask := 0x60, stagedLevels := 0x40 }

theorem witness_SetExpiryDrivesAndFrees :
    let d1 := expiry (entry .set 1200) []
    let d2 := expiry (entry .set 1200) [entry .set 1200]
    (SettledFor beforeExpiry (st d1) ∧ SettledFor beforeExpiry (st d2)) ∧ d1.tb.mode = .running ∧
      d2.calendar.tail.head? = some (entry .set 1200) ∧ (entry .set 1200).due = d2.tb.now := by
  unfold SettledFor; decide +kernel

/-- Alone, at the bounds of the width, and within an instant that goes on. -/
theorem witness_PulseExpiryDrivesBothPhases :
    let e (ph : Phase) (w : Nat) := { entry .pulse 1200 with phase := some ⟨ph, w⟩ }
    AtHead (st (expiry (e .start 1) [])) (e .start 1) [] ∧
      AtHead (st (expiry (e .start 4294967295) [])) (e .start 4294967295) [] ∧
      AtHead (st (within (expiry (e .start 9) [entry .set 1200]))) (e .start 9) [entry .set 1200] ∧
      AtHead (st (expiry (e .ending 9) [entry .set 1201])) (e .ending 9) [entry .set 1201] ∧
      AtHead (st (within (expiry (e .ending 9) [entry .set 1200]))) (e .ending 9) [entry .set 1200] :=
  ⟨atHead_st (by decide +kernel), atHead_st (by decide +kernel), atHead_st (by decide +kernel),
    atHead_st (by decide +kernel), atHead_st (by decide +kernel)⟩

/-- A TRAIN due at 1200 on a grid of period 100 from `origin`, with 3 pulses driven. -/
def train (ph : Phase) (remaining : Nat) (origin : Time) : Entry :=
  { entry .train 1200 with
    phase := some ⟨ph, 10⟩,
    train := some { period := 100, remaining := remaining, driven := 3, missed := 0, origin := origin } }

/-- In phase START; with the last pulse ended; with the next grid point now (m = 0); with points behind that end the
train; with one point behind and an endless train (m = 1), within an instant that goes on; and the grid points of the
bounds: the next one just within 2^32 ticks ahead, and as far behind as it can lie. -/
theorem witness_TrainPulsesOnItsGrid :
    let head (d : Device) (e : Entry) (rest : List Entry) := AtHead (st (d)) e rest
    let g (origin : Time) (period : Nat) : TrainPart :=
      { period := period, remaining := 1, driven := 3, missed := 0, origin := origin }
    (head (expiry (train .start 1 0) []) (train .start 1 0) [] ∧ head (expiry (train .ending 1 900) []) (train .ending 1 900) [] ∧
      head (expiry (train .ending 2 900) []) (train .ending 2 900) [] ∧
      head (expiry (train .ending 2 850) []) (train .ending 2 850) [] ∧
      head (within (expiry (train .ending 0 850) [entry .set 1200])) (train .ending 0 850) [entry .set 1200]) ∧
    PointsBehind 1200 (g 900 100) 0 0 ∧ PointsBehind 1200 (g 850 100) 50 1 ∧
    PointsBehind 1200 (g (1200 + 4294967295 - 300) 100) 0 0 ∧
    PointsBehind 1200 (g (1200 + 4294967296 - 3) 1) 281470681743360 281470681743360 :=
  ⟨⟨atHead_st (by decide +kernel), atHead_st (by decide +kernel), atHead_st (by decide +kernel),
    atHead_st (by decide +kernel), atHead_st (by decide +kernel)⟩,
    ⟨by decide, by decide, by decide, by decide, 0, by decide +kernel⟩,
    ⟨by decide, by decide, by decide, by decide, 0, by decide +kernel⟩,
    ⟨by decide, by decide, by decide, by decide, 4294967295, by decide +kernel⟩,
    ⟨by decide, by decide, by decide, by decide, 0, by decide +kernel⟩⟩

theorem witness_MarkerPostsAndFrees :
    AtHead (st (expiry (entry .marker 1200) [])) (entry .marker 1200) [] ∧
      AtHead (st (within (expiry (entry .marker 1200) [entry .set 1200]))) (entry .marker 1200) [entry .set 1200] :=
  ⟨atHead_st (by decide +kernel), atHead_st (by decide +kernel)⟩

/-- A pattern step due now, of a player with the buffer `steps`. -/
def patternDue (f : Player → Player) : Device :=
  (expiry { entry .patternStep 1200 with player := some 3 } []).modPlayer 3 (fun pl =>
    f { pl with state := .playing, stream := some 0, lines := 0x20, repeats := 1, steps := 9 })

theorem witness_PatternStepIsApplied :
    let d (hold : Nat) := patternDue (fun pl => { pl with buffer := [⟨hold, 1, true⟩] })
    AtHead (st (d 1)) { entry .patternStep 1200 with player := some 3 } [] ∧
      AtHead (st (d 16777215)) { entry .patternStep 1200 with player := some 3 } [] ∧
      ((d 1).player 3).nextEnd = false ∧ ((d 1).player 3).buffer = [⟨1, 1, true⟩] ∧ 16777215 < 2 ^ 24 ∧
      (∀ l, inMask 0x20 l = (inMask ((d 1).player 3).lines l && (1#8).getLsbD
        (allLines.filter (fun j => inMask ((d 1).player 3).lines j && decide (j < l))).length)) :=
  ⟨atHead_st (by decide +kernel), atHead_st (by decide +kernel), by decide +kernel⟩

theorem witness_PatternEndsOrUnderruns :
    let e := { entry .patternStep 1200 with player := some 3 }
    let d1 := patternDue (fun pl => { pl with nextEnd := true })
    let d2 := slotsTaken (patternDue (fun pl => { pl with request := .pending }))
    let d3 := patternDue (fun pl => { pl with request := .inFlight 8 })
    (AtHead (st d1) e [] ∧ AtHead (st d2) e [] ∧ AtHead (st d3) e []) ∧ (d1.player 3).nextEnd = true ∧
      (d2.player 3).buffer = [] ∧ (d2.player 3).request = .pending ∧ (d3.player 3).request = .inFlight 8 :=
  ⟨⟨atHead_st (by decide +kernel), atHead_st (by decide +kernel), atHead_st (by decide +kernel)⟩, by decide +kernel⟩

/-- A wait of S1 for a rising edge of L14. -/
def waitOn14 (halt : Bool) : ArmWait := { line := 14, tag := 3, edges := .rising, notify := true, haltOnTimeout := halt }

/-- A capture of S1 of both edges, with the limit `limit`. -/
def capture (limit : Nat) : Capture :=
  { stream := 0, tag := 3, edges := .both, limit := limit, captured := 1, missed := 0, notify := true }

theorem witness_ContextsEndAtTheirEntries :
    let e1 := { entry .captureEnd 1200 with context := some (.capture 9) }
    let d1 := (expiry e1 []).modLine 9 (fun x => { x with mode := .input, capture := some (capture 0) })
    let e2 := { entry .armDeadline 1200 with context := some .armWait }
    let d2 (halt : Bool) := (waiting .arm 0 (expiry e2 [])).modStream 0 (fun x => { x with armWait := some (waitOn14 halt) })
    (AtHead (st d1) e1 [] ∧ AtHead (st (d2 true)) e2 [] ∧ AtHead (st (d2 false)) e2 []) ∧
      (d1.line 9).capture = some (capture 0) ∧ ((d2 true).stream 0).armWait = some (waitOn14 true) :=
  ⟨⟨atHead_st (by decide +kernel), atHead_st (by decide +kernel), atHead_st (by decide +kernel)⟩, by decide +kernel⟩

theorem witness_ArbitersServeByPriority :
    spaceChoice (waiting .space 0 base) = some 0 ∧ MayTakeEntry (waiting .space 0 base) 0 ∧
      playerChoice (waiting .player 0 base) = some 0 ∧ ((waiting .player 0 base).player 3).state = .free := by
  unfold MayTakeEntry; decide +kernel

/-- A SET of L5 at the absolute time `t`. -/
def setAt (t : Nat) : Record := rec' [(0, 1, 2), (6, 2, 10), (8, 6, t), (16, 4, 0x20)]

/-- A PATTERN of L5 at the absolute time `t`, of one step at 8000h. -/
def patternAt (t : Nat) : Record :=
  rec' [(0, 1, 6), (5, 1, 1), (6, 2, 10), (8, 6, t), (14, 2, 1), (16, 4, 0x20), (24, 4, 0x8000)]

theorem witness_GrantsResumeAdmission :
    let d1 := waiting .space (setAt 9) (at' .running 5 base)
    let d2 := waiting .player (patternAt 9) (at' .running 5 base)
    (SettledFor beforeSpace (st d1) ∧ WaitsAlone d1 0 .space ∧ (d1.stream 0).buffer.head? = some (setAt 9) ∧
      streamKindOf (StreamRecord.kind (setAt 9)) = some .set ∧ MayTakeEntry d1 0) ∧
    (SettledFor beforePlayer (st d2) ∧ WaitsAlone d2 0 .player ∧
      (∀ m, ¬((d2.stream m).state = .waiting ∧ (d2.stream m).reason = .space)) ∧
      (d2.stream 0).buffer.head? = some (patternAt 9) ∧
      streamKindOf (StreamRecord.kind (patternAt 9)) = some .pattern ∧ MayTakeEntry d2 0 ∧
      (d2.player 0).state = .free ∧ ∀ q, q < 0 → (d2.player q).state ≠ .free) ∧
    KeptDue 5 9 10 false 9 false ∧ resolveTime d1 0 (setAt 9) = 9 ∧ resolveTime d2 0 (patternAt 9) = 9 := by
  refine ⟨?_, ?_, kept_ahead (k := 4) (by decide +kernel), by decide +kernel, by decide +kernel⟩
  · unfold SettledFor WaitsAlone MayTakeEntry; decide +kernel
  · unfold SettledFor WaitsAlone MayTakeEntry; decide +kernel

/-- S1 and S8 wait at the records `r` and `r'`, S8 with the greater priority. -/
def bothWait (w : WaitReason) (r r' : Record) : Device :=
  (waiting w r (at' .running 5 base)).modStream 7 (fun s =>
    { configured s with state := .waiting, reason := w, buffer := [r'], tail := 1, prio := 7 })

/-- Two streams served in turn by each arbiter, and one left when the only FREE player has been taken. -/
theorem witness_GrantsResumeAdmission_in_turn :
    let d1 := bothWait .space (setAt 9) (setAt 8)
    let d2 := bothWait .player (patternAt 9) (patternAt 8)
    let d3 := { d2 with players := (Vector.replicate 4 { Player.reset with state := .playing }).set 1 Player.reset }
    ServedInTurn spaceChoice beforeSpace [7, 0] d1 (resumeHead 0 (resumeHead 7 d1)) ∧
      ServedInTurn playerChoice beforePlayer [7, 0] d2 (resumeHead 0 (resumeHead 7 d2)) ∧
      ServedInTurn playerChoice beforePlayer [7] d3 (resumeHead 7 d3) ∧ ([7, 0] : List StreamId).length ≤ 4096 :=
  ⟨⟨by decide +kernel, by decide +kernel, by decide +kernel, by decide +kernel, rfl, by decide +kernel, by decide +kernel⟩,
    ⟨by decide +kernel, by decide +kernel, by decide +kernel, by decide +kernel, rfl, by decide +kernel, by decide +kernel⟩,
    ⟨by decide +kernel, by decide +kernel, rfl, by decide +kernel, by decide +kernel⟩, by decide⟩

/-! ### Lines, captures and arms -/

theorem witness_FilterAcceptsAfterAgreement :
    let d (n : Nat) := input (fun x => { x with agree := n }) base
    Settled (st base) ∧ Settled (st (d 14)) ∧ Settled (st (d 15)) ∧ (base.line 9).mode ≠ .input ∧
      ((d 14).line 9).mode = .input ∧ ((d 14).line 9).agree < ((d 14).line 9).filterLength ∧
      ((d 15).line 9).filterLength ≤ ((d 15).line 9).agree ∧ ((d 15).line 9).filtered = false ∧
      ((d 15).line 9).capture = none ∧ ∀ n, ((d 15).stream n).armWait = none :=
  ⟨settled_st (by decide +kernel), settled_st (by decide +kernel), settled_st (by decide +kernel), by decide +kernel⟩

/-- An edge not selected, a full holding buffer, one with a place, the edge below the limit and the one that reaches it;
a line that an arm wait watches. -/
theorem witness_CaptureCountsEdges :
    let one : Held := { queue := 0, overflow := none, completion := plainCompletion .control 0 .done 0 0 0 0 0 0 }
    let d (limit held : Nat) (e : EdgeSelect) : Device :=
      writerBusy { input (fun x => { x with capture := some { capture limit with edges := e } }) base with
        holding := List.replicate held one }
    let w : ArmWait := { waitOn14 false with line := 9 }
    let watched := (d 0 62 .both).modStream 3 (fun x => { x with state := .waiting, reason := .arm, armWait := some w })
    (Settled (st (d 0 0 .falling)) ∧ Settled (st (d 0 64 .both)) ∧ Settled (st (d 0 63 .both)) ∧
      Settled (st (d 3 63 .both)) ∧ Settled (st (d 2 63 .both)) ∧ Settled (st watched)) ∧
      takesEdge .falling true = false ∧ takesEdge .both true = true ∧
      ((d 3 63 .both).line 9).capture = some (capture 3) ∧ (capture 3).captured + 1 ≠ (capture 3).limit ∧
      (capture 2).captured + 1 = (capture 2).limit ∧ (d 0 64 .both).holding.length = 64 ∧
      (∀ n, ((d 0 64 .both).stream n).armWait = none) ∧ (watched.stream 3).armWait = some w ∧
      takesEdge w.edges true = true ∧ (∀ m, m ≠ 3 → (watched.stream m).armWait = none) ∧ watched.holding.length < 63 :=
  ⟨⟨settled_st (by decide +kernel), settled_st (by decide +kernel), settled_st (by decide +kernel),
    settled_st (by decide +kernel), settled_st (by decide +kernel), settled_st (by decide +kernel)⟩, by decide +kernel⟩

theorem witness_ArmWaitFires :
    let d1 := (waiting .arm 0 (input id base)).modStream 0 (fun x => { x with armWait := some (waitOn14 false) })
    let h : HandedEdge := { stream := 0, rising := true, time := 5, frozen := false }
    let d2 := { d1 with edges := [h] }
    Settled (st d1) ∧ (d1.line 9).mode = .input ∧ (d1.line 9).capture = none ∧ d2.host.resetN = true ∧
      d2.edges.find? (fun h => h.stream == 0) = some h ∧ (d2.stream 0).armWait = some (waitOn14 false) :=
  ⟨settled_st (by decide +kernel), by decide +kernel⟩

/-! ### Admission -/

/-- The records of the four timed actions at the absolute time `t`, window 10, on L5 but for the MARKER. -/
def actionAt (k : Action) (t : Nat) : Record :=
  match k with
  | .set => setAt t
  | .pulse => rec' [(0, 1, 3), (6, 2, 10), (8, 6, t), (16, 4, 0x20), (24, 4, 1)]
  | .train => rec' [(0, 1, 4), (6, 2, 10), (8, 6, t), (16, 4, 0x20), (24, 4, 1), (28, 4, 2)]
  | .marker => rec' [(0, 1, 5), (6, 2, 10), (8, 6, t)]

/-- S1 with the record `r` at its head, owner of L5, at 1000. -/
def admitting (r : Record) : Device := running [r] (owned 5 .output (at' .running 1000 base))

/-- Each of the four, now, ahead by 2^46, behind by its window, and behind it with LATE_RUN. -/
theorem witness_TimedActionsAreInserted :
    (∀ k : Action, ∀ t ∈ [1000, 70368744178664, 990], Admits (st (admitting (actionAt k t))) 0 k.streamKind (actionAt k t)) ∧
      Admits (st (admitting (actionAt .set 989 ||| put 1 1 2))) 0 .set (actionAt .set 989 ||| put 1 1 2) ∧
      OwnedInMode (admitting (setAt 1000)) 0 .output 0x20 ∧ MayTakeEntry (admitting (setAt 1000)) 0 ∧
      KeptDue 1000 1000 10 false 1000 false ∧ KeptDue 1000 70368744178664 10 false 70368744178664 false ∧
      KeptDue 1000 990 10 false 1000 false ∧ KeptDue 1000 989 10 true 1000 true := by
  refine ⟨?_, admits_st (by decide +kernel), ?_, ?_, kept_present, kept_ahead (k := 70368744177664) (by decide +kernel),
    kept_window (p := 10) (by decide +kernel) (by decide), kept_late (p := 11) (by decide +kernel) (by decide)⟩
  · intro k t ht
    simp only [List.mem_cons, List.not_mem_nil, or_false] at ht
    obtain rfl | rfl | rfl := ht <;> cases k <;> exact admits_st (by decide +kernel)
  · unfold OwnedInMode; decide +kernel
  · unfold MayTakeEntry; decide +kernel

theorem witness_TimedActionsAreSkippedOrWait :
    let d := (admitting (setAt 1000)).modStream 0 (fun x => { x with quota := 0 })
    Admits (st (admitting (setAt 989))) 0 .set (setAt 989) ∧ Admits (st d) 0 .set (setAt 1000) ∧
      classify 1000 989 = .behind 11 ∧ StreamRecord.window (setAt 989) = 10 ∧
      StreamRecord.lateRun (setAt 989) = false ∧ KeptDue 1000 1000 10 false 1000 false ∧ ¬MayTakeEntry d 0 :=
  ⟨admits_st (by decide +kernel), admits_st (by decide +kernel), by decide +kernel, by decide +kernel, by decide +kernel,
    kept_present, by unfold MayTakeEntry; decide +kernel⟩

/-- A CAPTURE and an ARM on L9, of rising edges, until the absolute time `t`. -/
def captureUntil (t : Nat) : Record := rec' [(0, 1, 7), (8, 6, t), (14, 2, 1), (16, 4, 0x200)]
def armUntil (t : Nat) : Record := rec' [(0, 1, 8), (8, 6, t), (14, 2, 1), (16, 4, 0x200)]

/-- The same without an end. -/
def captureOpen : Record := rec' [(0, 1, 7), (1, 1, 0x10), (14, 2, 1), (16, 4, 0x200)]
def armOpen : Record := rec' [(0, 1, 8), (1, 1, 0x10), (14, 2, 1), (16, 4, 0x200)]

/-- S1 with the record `r` at its head, owner of the INPUT line L9, at 1000. -/
def onInput (r : Record) : Device := running [r] (owned 9 .input (at' .running 1000 base))

/-- Stages 1 and 2, then NOT_OWNER, LINE_MODE of an output and of an input, HORIZON of an action, an ANCHOR and an ARM,
CLAIM_CONFLICT and CAPTURE_BUSY. -/
theorem witness_RecordsAreRefused :
    let bad : Record := rec' [(0, 1, 0x0E)]
    let far : Nat := 70368744178665
    let anchor : Record := rec' [(0, 1, 9), (8, 6, far)]
    let claim : Record := rec' [(0, 1, 0x0B), (16, 4, 0x20)]
    let other (d : Device) := d.modLine 5 (fun x => { x with owner := some 7 })
    let busy := (onInput captureOpen).modLine 9 (fun x => { x with capture := some (capture 0) })
    (Settled (st (admitting bad)) ∧ streamKindOf (StreamRecord.kind bad) = none ∧
      ¬FieldsInRange .set (setAt 9 ||| put 24 4 1) ∧ FieldsInRange .set (setAt 9) ∧
      ¬FieldsInRange .anchor (rec' [(0, 1, 9), (4, 1, 2)]) ∧ ¬FieldsInRange .set (setAt 9 ||| put 1 1 4) ∧
      ¬FieldsInRange .train (rec' [(0, 1, 4), (16, 4, 0x20), (24, 4, 8), (28, 4, 8)]) ∧
      FieldsInRange .train (rec' [(0, 1, 4), (16, 4, 0x20), (24, 4, 7), (28, 4, 8)]) ∧ streamKindOf (StreamRecord.kind (setAt 9 ||| put 24 4 1)) = some .set) ∧
    (Admits (st (other (admitting (setAt 9)))) 0 .set (setAt 9) ∧
      (∀ l, inMask 0x20 l = (inMask 0x20 l && ((other (admitting (setAt 9))).line l).owner != some 0))) ∧
    (Admits (st ((admitting (setAt 9)).modLine 5 (fun x => { x with mode := .input }))) 0 .set (setAt 9) ∧
      Admits (st (running [armOpen] base)) 0 .arm armOpen ∧ StreamRecord.lines armOpen = lineBit 9 ∧
      (base.line 9).mode ≠ .input) ∧
    (Admits (st (admitting (setAt far))) 0 .set (setAt far) ∧ Admits (st (admitting anchor)) 0 .anchor anchor ∧
      Admits (st (onInput (armUntil far))) 0 .arm (armUntil far) ∧
      classify 1000 (BitVec.ofNat 48 far) = .outOfHorizon ∧ StreamRecord.noEnd (armUntil far) = false) ∧
    (Admits (st (other (admitting claim))) 0 .claim claim ∧
      (∀ l, inMask 0x20 l = (inMask 0x20 l && ((other (admitting claim)).line l).owner.any (fun o => o != 0)))) ∧
    (Admits (st busy) 0 .capture captureOpen ∧ (busy.line 9).capture = some (capture 0) ∧
      StreamRecord.noEnd captureOpen = true) := by
  refine ⟨⟨settled_st (by decide +kernel), by
      dsimp only [FieldsInRange]
      exact ⟨by decide +kernel, by decide +kernel, by decide +kernel, by decide +kernel, by decide +kernel, by decide +kernel,
        by decide +kernel, by decide +kernel⟩⟩,
    ⟨admits_st (by decide +kernel), by decide +kernel⟩,
    ⟨admits_st (by decide +kernel), admits_st (by decide +kernel), by decide +kernel⟩,
    ⟨admits_st (by decide +kernel), admits_st (by decide +kernel), admits_st (by decide +kernel), by decide +kernel⟩,
    ⟨admits_st (by decide +kernel), by decide +kernel⟩, admits_st (by decide +kernel), by decide +kernel⟩

/-- The resumptions: out of horizon, skipped, kept with and without an entry to take, of an action and a PATTERN; a CAPTURE
and an ARM with an end behind and out of horizon, and an ARM of a line not in INPUT mode. -/
theorem witness_GrantsResumeAdmission_outcomes :
    let far : Nat := 70368744178665
    let d (r : Record) := waiting .space r (owned 9 .input (at' .running 1000 base))
    let full (r : Record) := (d r).modStream 0 (fun s => { s with quota := 0 })
    let taken (r : Record) := { d r with players := Vector.replicate 4 { Player.reset with state := .playing } }
    (∀ r ∈ [setAt far, setAt 989, setAt 1000, patternAt far, patternAt 989, patternAt 1000, captureUntil far,
        captureUntil 999, armUntil far, armUntil 999],
      ((d r).stream 0).buffer.head? = some r ∧ ((full r).stream 0).buffer.head? = some r ∧
        (streamKindOf (StreamRecord.kind r)).isSome = true) ∧
    (classify 1000 (resolveTime (d (setAt far)) 0 (setAt far)) = .outOfHorizon ∧
      classify 1000 (resolveTime (d (setAt 989)) 0 (setAt 989)) = .behind 11 ∧ StreamRecord.window (setAt 989) = 10 ∧
      StreamRecord.lateRun (setAt 989) = false) ∧
    KeptDue 1000 1000 10 false 1000 false ∧ DueOfContext 1000 999 1000 ∧ MayTakeEntry (d (setAt 1000)) 0 ∧
    ¬MayTakeEntry (full (setAt 1000)) 0 ∧ ((d (patternAt 1000)).player 0).state = .free ∧
    (∀ p, ((taken (patternAt 1000)).player p).state ≠ .free) ∧ StreamRecord.lines (armUntil 999) = lineBit 9 ∧
    StreamRecord.noEnd (armUntil 999) = false ∧ StreamRecord.noEnd (captureUntil 999) = false ∧
    ((d (armUntil 999)).line 9).mode = .input ∧ (base.line 9).mode ≠ .input := by
  refine ⟨?_, by decide +kernel, kept_present, .inr ⟨⟨1, by decide +kernel⟩, rfl⟩, ?_, ?_, by decide +kernel⟩
  · intro r hr
    simp only [List.mem_cons, List.not_mem_nil, or_false] at hr
    obtain rfl | rfl | rfl | rfl | rfl | rfl | rfl | rfl | rfl | rfl := hr <;> decide +kernel
  · unfold MayTakeEntry; decide +kernel
  · unfold MayTakeEntry; decide +kernel

theorem witness_NopIsConsumed :
    Admits (st (running [rec' [(0, 1, 1), (1, 1, 1)]] base)) 0 .nop (rec' [(0, 1, 1), (1, 1, 1)]) :=
  admits_st (by decide +kernel)

theorem witness_AnchorIsSet :
    let r : Record := rec' [(0, 1, 9), (8, 6, 70368744178664)]
    Admits (st (admitting r)) 0 .anchor r ∧ StreamRecord.timeRef r = 0 ∧
      classify 1000 (StreamRecord.time r) ≠ .outOfHorizon :=
  ⟨admits_st (by decide +kernel), by decide +kernel⟩

/-- No matching entry, one, and the report of the last one freed, with one of its own before it and one of another stream
after it. -/
theorem witness_WaitHoldsForMatchingEntries :
    let r : Record := rec' [(0, 1, 0x0A), (2, 2, 7), (14, 2, 0xFFFF)]
    let d1 := running [r] base
    let d2 := { d1 with calendar := [entry .train 9] }
    let x := reportOf (entry .train 9)
    let d3 := { waiting .barrier r base with reports := [x] ++ x :: [{ x with stream := 1 }] }
    Admits (st d1) 0 .wait r ∧ Admits (st d2) 0 .wait r ∧ SettledFor [.edge] (st d3) ∧
      matchingEntries d1 0 7 0xFFFF = 0 ∧ 0 < matchingEntries d2 0 7 0xFFFF ∧ (d3.stream 0).reason = .barrier ∧
      (d3.stream 0).buffer.head? = some r ∧ (∀ y ∈ [x], y.stream = 0) ∧ x.kind = .train ∧ (∀ y ∈ [{ x with stream := 1 }], ¬(y.stream = 0)) ∧
      (reportOf (entry .train 9)).tag &&& StreamRecord.short r = StreamRecord.tag r &&& StreamRecord.short r :=
  ⟨admits_st (by decide +kernel), admits_st (by decide +kernel), by unfold SettledFor; decide +kernel, by decide +kernel⟩

/-- Kept with a player FREE; no player FREE; no entry to take; behind the window. -/
theorem witness_PatternTakesPlayer :
    let d := admitting (patternAt 1000)
    let taken := { d with players := Vector.replicate 4 { Player.reset with state := .playing } }
    let full := d.modStream 0 (fun x => { x with quota := 0 })
    (Admits (st d) 0 .pattern (patternAt 1000) ∧ Admits (st taken) 0 .pattern (patternAt 1000) ∧
      Admits (st full) 0 .pattern (patternAt 1000) ∧ Admits (st (admitting (patternAt 989))) 0 .pattern (patternAt 989)) ∧
    OwnedInMode d 0 .output 0x20 ∧ KeptDue 1000 1000 10 false 1000 false ∧ MayTakeEntry d 0 ∧ ¬MayTakeEntry full 0 ∧
      (d.player 0).state = .free ∧ (∀ p, (taken.player p).state ≠ .free) ∧ classify 1000 989 = .behind 11 := by
  refine ⟨⟨admits_st (by decide +kernel), admits_st (by decide +kernel), admits_st (by decide +kernel),
    admits_st (by decide +kernel)⟩, ?_, kept_present, ?_⟩
  · unfold OwnedInMode; decide +kernel
  · unfold MayTakeEntry; decide +kernel

/-- With and without an end, the end now, 2^46 ahead and behind, and no entry to take. -/
theorem witness_CaptureAndArmBegin :
    let full (r : Record) := (onInput r).modStream 0 (fun x => { x with quota := 0 })
    (Admits (st (onInput captureOpen)) 0 .capture captureOpen ∧ Admits (st (onInput armOpen)) 0 .arm armOpen) ∧
    (∀ t ∈ [1000, 70368744178664, 999], Admits (st (onInput (captureUntil t))) 0 .capture (captureUntil t) ∧
      Admits (st (onInput (armUntil t))) 0 .arm (armUntil t)) ∧
    (Admits (st (full (captureUntil 1000))) 0 .capture (captureUntil 1000) ∧ ¬MayTakeEntry (full (captureUntil 1000)) 0) ∧
    StreamRecord.lines (captureUntil 1000) = lineBit 9 ∧ ((onInput captureOpen).line 9).owner = some 0 ∧
      MayTakeEntry (onInput (captureUntil 1000)) 0 ∧ DueOfContext 1000 1000 1000 ∧
      DueOfContext 1000 70368744178664 70368744178664 ∧ DueOfContext 1000 999 1000 := by
  refine ⟨⟨admits_st (by decide +kernel), admits_st (by decide +kernel)⟩, ?_, ⟨admits_st (by decide +kernel), ?_⟩,
    by decide +kernel, by decide +kernel, ?_, .inl ⟨.inl (by decide +kernel), rfl⟩,
    .inl ⟨.inr ⟨70368744177664, by decide +kernel⟩, rfl⟩, .inr ⟨⟨1, by decide +kernel⟩, rfl⟩⟩
  · intro t ht
    simp only [List.mem_cons, List.not_mem_nil, or_false] at ht
    obtain rfl | rfl | rfl := ht <;> exact ⟨admits_st (by decide +kernel), admits_st (by decide +kernel)⟩
  · unfold MayTakeEntry; decide +kernel
  · unfold MayTakeEntry; decide +kernel

/-- A CLAIM of a free and an owned line; a RELEASE that goes through, one that waits, and the report that ends the wait. -/
theorem witness_OwnershipMoves :
    let claim : Record := rec' [(0, 1, 0x0B), (16, 4, 0x60)]
    let r : Record := rec' [(0, 1, 0x0C), (16, 4, 0x20)]
    let d := admitting r
    let d2 := { d with calendar := [entry .train 9000] }
    let x := reportOf (entry .train 9)
    let d3 := { waiting .release r (owned 5 .output base) with reports := [x] ++ x :: [{ x with lines := 0x40 }] }
    (Admits (st (admitting claim)) 0 .claim claim ∧
      (∀ l, inMask 0x60 l = true → ((admitting claim).line l).owner = none ∨ ((admitting claim).line l).owner = some 0) ∧
      ∀ l, inMask 0x20 l = (inMask 0x60 l && ((admitting claim).line l).owner == some 0)) ∧
    (Admits (st d) 0 .release r ∧ Admits (st d2) 0 .release r ∧ (∀ l, inMask 0x20 l = true → (d.line l).owner = some 0) ∧
      meetingEntries d 0 0x20 = 0 ∧ meetingEntries d2 0 0x20 = 1) ∧
    (SettledFor [.edge] (st d3) ∧ (d3.stream 0).reason = .release ∧ (d3.stream 0).buffer.head? = some r ∧
      x.lines &&& StreamRecord.lines r ≠ 0 ∧ (∀ y ∈ [x], y.stream = 0) ∧
      ∀ y ∈ [{ x with lines := 0x40 }], ¬(y.lines &&& StreamRecord.lines r ≠ 0)) :=
  ⟨⟨admits_st (by decide +kernel), by decide +kernel⟩,
    ⟨admits_st (by decide +kernel), admits_st (by decide +kernel), by decide +kernel⟩,
    by unfold SettledFor; decide +kernel⟩

/-- With no request pending, and with one pending and a slot free. -/
theorem witness_CancelEndsSelectedWork :
    let r : Record := rec' [(0, 1, 0x0D), (1, 1, 5), (2, 2, 7), (14, 2, 0xFFFF)]
    let d (q : Request) := { (running [r] (owned 5 .output base)).modPlayer 1 (fun pl => { pl with request := q }) with
               calendar := [{ entry .pulse 9 with phase := some ⟨.ending, 3⟩ }, entry .set 10] }
    (AdmitsFor allButGrant (st (d .idle)) 0 .cancel r ∧ AdmitsFor allButGrant (st (d .pending)) 0 .cancel r) ∧
      grantPossible (d .pending) = true ∧ StreamRecord.finish r = true := by
  unfold AdmitsFor SettledFor; decide +kernel

/-! ### Streams, reads and writes -/

theorem witness_StreamsStartAndStop :
    let idle := base.modStream 0 configured
    let halted := idle.modStream 0 (fun x => { x with state := .halted, tail := 3 })
    let reading := (running [] base).modStream 0 (fun x => { x with request := .inFlight 4 })
    let stopping (r : Request) := idle.modStream 0 (fun x => { x with state := .stopping, request := r })
    let asking := (running [] base).modStream 0 (fun x => { x with request := .pending, tail := 4 })
    (Settled (st idle) ∧ Settled (st halted) ∧ Settled (st base) ∧ Settled (st (running [] base)) ∧
      Settled (st reading) ∧ Settled (st (stopping (.inFlight 4)))) ∧
    (SettledFor allButGrant (st idle) ∧ SettledFor allButGrant (st halted) ∧
      SettledFor allButGrant (st reading) ∧ SettledFor allButGrant (st (stopping (.inFlight 4))) ∧
      SettledFor allButGrant (st asking) ∧ grantPossible asking = true) ∧
    (SettledFor beforeStopped (st (stopping .idle)) ∧ SettledFor beforeStopped (st (stopping (.inFlight 4)))) ∧
    (idle.stream 0).configured = true ∧ (halted.stream 0).state = .halted ∧ base.ctl.mode = .on ∧
      (base.stream 0).configured = false ∧ (reading.stream 0).request = .inFlight 4 ∧
      (∀ l, inMask 0 l = ((reading.line l).owner == some 0)) :=
  ⟨⟨settled_st (by decide +kernel), settled_st (by decide +kernel), settled_st (by decide +kernel),
    settled_st (by decide +kernel), settled_st (by decide +kernel), settled_st (by decide +kernel)⟩,
    by unfold SettledFor; decide +kernel, by unfold SettledFor; decide +kernel, by decide +kernel⟩

/-- A tail at size − 1 fits and one at the size does not; a head at the device tail passes and one beyond it does not; so
for the control ring; and words that name no ring. -/
theorem witness_RingIndexWrites :
    let y := (running [] base).stream 0
    let d := base.modQueue 0 (fun c => { c with tail := 5, head := 2 })
    Settled (st (running [] base)) ∧ Settled (st d) ∧ y.state = .running ∧
      (15 < y.size ∧ fetchedCount y ≤ ringSpan 15 y.head y.size) ∧ ¬(16 < y.size) ∧
      ringSpan 5 2 64 ≤ ringSpan 5 2 64 ∧ ¬(ringSpan 6 2 64 ≤ ringSpan 5 2 64) ∧ (d.queue 0).state = .active ∧
      (15 < d.ctl.size ∧ controlFetched d.ctl ≤ ringSpan 15 d.ctl.head d.ctl.size) ∧ ¬(16 < d.ctl.size) ∧
      0x1000#32 &&& 0xFFE0F000#32 ≠ 0 ∧ (8 < selectorOf 0x90000 ∧ selectorOf 0x90000 < 16) ∧
      selectorOf 0xF0000 = 15 ∧ 19 < selectorOf 0x140000 :=
  ⟨settled_st (by decide +kernel), settled_st (by decide +kernel), by decide +kernel⟩

/-- A read of the issuer, asked for `n` bytes. -/
def readOf (i : Issuer) (n : Nat) (orphaned : Bool) : Read :=
  { identity := 4, issuer := i, addr := 0, length := n, timeout := 9, elapsed := 0, orphaned := orphaned }

theorem witness_ReadGrantServesInOrder :
    let boot (a : Addr) : Device := { base with
      host := { base.host with bootAddr := a }, ctl := { base.ctl with mode := .loading, boot := .pending } }
    let full : Device := { base with reads := List.replicate 8 (readOf .control 32 false) }
    let seven : Device := { boot 64 with reads := List.replicate 7 (readOf .control 32 false) }
    let player := base.modPlayer 2 (fun pl => { pl with state := .priming, request := .pending, asked := 9 })
    let control := base.modCtl (fun c => { c with request := .pending, tail := 9 })
    let streams := (running [] base).modStream 0 (fun x => { x with request := .pending, tail := 9 }) |>.modStream 7 (fun x =>
      { configured x with state := .running, request := .pending, tail := 9 })
    (SettledFor beforeGrant (st full) ∧ SettledFor beforeGrant (st seven) ∧ SettledFor beforeGrant (st (boot 65)) ∧ SettledFor beforeGrant (st player) ∧ SettledFor beforeGrant (st control) ∧
      SettledFor beforeGrant (st streams) ∧ SettledFor beforeGrant (st base)) ∧ full.reads.length = 8 ∧ seven.reads.length = 7 ∧
      (boot 65).host.bootAddr.toNat % 64 ≠ 0 ∧ (player.player 2).request = .pending ∧
      (∀ q, q < 2 → (player.player q).request ≠ .pending) ∧ (∀ p, (control.player p).request ≠ .pending) ∧
      control.ctl.request = .pending ∧ (streams.stream 0).request = .pending ∧ (streams.stream 7).request = .pending ∧
      (streams.stream 0).prio = (streams.stream 7).prio ∧ placeInCycle none 0 ≤ placeInCycle none 7 ∧
      placeInCycle (some 0) 7 = 6 ∧ placeInCycle (some 0) 0 = 7 ∧ ∀ n, (base.stream n).request ≠ .pending :=
  ⟨⟨by unfold SettledFor; decide +kernel, by unfold SettledFor; decide +kernel, by unfold SettledFor; decide +kernel,
    by unfold SettledFor; decide +kernel, by unfold SettledFor; decide +kernel, by unfold SettledFor; decide +kernel,
    by unfold SettledFor; decide +kernel⟩, by decide +kernel⟩

/-- The part with the read `x` in its table. -/
def reading (x : Read) (d : Device) : Device := { d with reads := [x] }

theorem witness_RingReadsEnd :
    let s1 := (running [] base).modStream 0 (fun x => { x with request := .inFlight 4 })
    let d (o : Bool) := reading (readOf (.stream 0) 128 o) s1
    let discarding := (d false).modStream 0 (fun x => { x with discard := true })
    let stopping := (d false).modStream 0 (fun x => { x with state := .stopping })
    let control (m : DeviceMode) := reading (readOf .control 32 false) (base.modCtl (fun c =>
      { c with mode := m, request := .inFlight 1 }))
    (Settled (st (d true)) ∧ Settled (st (d false)) ∧ Settled (st discarding) ∧ Settled (st stopping) ∧
      Settled (st (control .on)) ∧ Settled (st (control .stopping))) ∧
    (d true).reads.find? (fun y => y.identity == 4) = some (readOf (.stream 0) 128 true) ∧
      (List.replicate 128 (0 : Byte)).length = (readOf (.stream 0) 128 true).length ∧
      (discarding.stream 0).discard = true ∧ (stopping.stream 0).state = .stopping ∧
      ((d false).stream 0).request = .inFlight 4 ∧ (control .on).ctl.request = .inFlight 1 :=
  ⟨⟨settled_st (by decide +kernel), settled_st (by decide +kernel), settled_st (by decide +kernel),
    settled_st (by decide +kernel), settled_st (by decide +kernel), settled_st (by decide +kernel)⟩, by decide +kernel⟩

/-- A good step of hold 1, and one of hold 0, which is invalid (R105). -/
theorem witness_BootstrapAndPlayerReadsEnd :
    let boot (m : DeviceMode) := reading (readOf .bootstrap 64 false) (base.modCtl (fun c =>
      { c with mode := m, boot := .inFlight 1 }))
    let player (m : PlayerState) := reading (readOf (.player 3) 8 false) (base.modPlayer 3 (fun pl =>
      { pl with state := m, stream := some 0, steps := 1, repeats := 1, begun := 1, request := .inFlight 1 }))
    let good : List Byte := [1, 0, 0, 0, 0, 0, 0, 0]
    let block : List Byte := leBytes 4 0x5A423208 ++ leBytes 2 1 ++ leBytes 2 0 ++ leBytes 8 0x1000 ++ leBytes 2 16 ++
      leBytes 2 0 ++ leBytes 2 1 ++ leBytes 2 0 ++ leBytes 8 0x4000 ++ leBytes 2 4096 ++ leBytes 1 1 ++ leBytes 29 0
    (Settled (st base) ∧ Settled (st (boot .loading)) ∧ Settled (st (boot .stopping)) ∧ Settled (st (player .priming)) ∧
      Settled (st (player .retiring))) ∧ base.reads.find? (fun y => y.identity == 4) = none ∧
      (boot .loading).reads.find? (fun y => y.identity == 4) = some (readOf .bootstrap 64 false) ∧
      ¬BootBlockValid (List.replicate 64 0) ∧ BootBlockValid block ∧ block.length = 64 ∧ good.length = (readOf (.player 3) 8 false).length ∧
      ([] : List Byte).length ≠ (readOf (.player 3) 8 false).length ∧ bytesAt good 0 3 = 1 ∧ bytesAt good 4 1 = 0 ∧
      bytesAt good 5 3 = 0 ∧ bytesAt (List.replicate 8 0) 0 3 = 0 ∧ ((player .priming).player 3).steps = 1 ∧
      bytesAt [1, 0, 0, 0, 1, 0, 0, 0] 4 1 = 1 ∧ ((player .priming).player 3).request = .inFlight 1 ∧
      ((player .priming).player 3).stream = some 0 :=
  ⟨⟨settled_st (by decide +kernel), settled_st (by decide +kernel), settled_st (by decide +kernel),
    settled_st (by decide +kernel), settled_st (by decide +kernel)⟩, by dsimp only [BootBlockValid, RingInRange]; decide +kernel⟩

/-- A record for a queue, with an overflow prefix or without. -/
def heldFor (q : CqId) (o : Option (W32 × Time)) : Held :=
  { queue := q, overflow := o, completion := plainCompletion .control 0 .done 0 0 0 0 0 0 }

/-- A write of the writer `w`. -/
def writeOf (w : Writer) (orphaned : Bool) : Write :=
  { identity := 4, writer := w, addr := 0, data := [], timeout := 9, elapsed := 0, orphaned := orphaned }

/-- The part with a completion write to CQ0 outstanding. -/
def writing (f : Queue → Queue) : Device :=
  ({ base with writes := [writeOf .completion false],
               outstanding := some { identity := 4, queue := 0, overflow := none } }).modQueue 0 f

theorem witness_WriterWritesOldestEligible :
    let d1 : Device := { base with holding := [heldFor 1 none, heldFor 0 none] }
    let d2 : Device := { base with holding := [heldFor 1 none, heldFor 0 (some (3, 9))] }
    let c1 := writing (fun c => { c with unsignalled := 3 })
    let c2 := writing (fun c => { c with unsignalled := 2 })
    let set : Device := { writing id with host := { base.host with event := 1 } }
    (SettledFor beforeWrite (st base) ∧ SettledFor beforeWrite (st d1) ∧ SettledFor beforeWrite (st d2) ∧
      SettledFor beforeWrite (st (writing id))) ∧ (Settled (st c1) ∧ Settled (st c2) ∧ Settled (st set)) ∧ (∀ h ∈ base.holding, h.queue ≠ 0) ∧ (d1.queue 1).state ≠ .active ∧
      (d1.queue 0).state = .active ∧ ((d1.queue 0).tail + 1) % (d1.queue 0).size ≠ (d1.queue 0).head ∧
      (writing id).outstanding ≠ none ∧ attnSet set 0 = true ∧ attnSet c1 0 = false ∧
      (c1.queue 0).countThreshold ≤ min 255 ((c1.queue 0).unsignalled + 1) ∧
      min 255 ((c2.queue 0).unsignalled + 1) < (c2.queue 0).countThreshold ∧
      c1.writes.find? (fun y => y.identity == 4) = some (writeOf .completion false) :=
  ⟨by unfold SettledFor; decide +kernel, ⟨settled_st (by decide +kernel), settled_st (by decide +kernel),
    settled_st (by decide +kernel)⟩, by decide +kernel⟩

/-- A read, a write and a timer that reach their limit of one microsecond in this period, and none that does not. -/
theorem test_counts_reach_their_limits :
    let d (n : Nat) := ({ base with
      reads := [{ readOf .control 32 false with timeout := 1, elapsed := n }],
      writes := [{ writeOf .snapshot false with timeout := 1, elapsed := n }] }).modQueue 0 (fun c =>
        { c with unsignalled := 1, timeThreshold := 1, timer := some n })
    timeouts (aged (d 99)) = [.readTimeout 4, .writeTimeout 4, .coalescingTimeout 0] ∧ timeouts (aged (d 98)) = [] := by
  decide +kernel

theorem witness_WriteErrorFaultsQueue :
    let orphan : Device := { base with writes := [writeOf .completion true] }
    let d : Device := { writing (fun c => { c with lost := 0xFFFFFFFF }) with holding := [heldFor 0 (some (3, 9))] }
    Settled (st base) ∧ Settled (st orphan) ∧ Settled (st d) ∧ base.writes.find? (fun y => y.identity == 4) = none ∧
      orphan.writes.find? (fun y => y.identity == 4) = some (writeOf .completion true) ∧
      d.outstanding = some { identity := 4, queue := 0, overflow := none } ∧ (d.queue 0).lost = 0xFFFFFFFF :=
  ⟨settled_st (by decide +kernel), settled_st (by decide +kernel), settled_st (by decide +kernel), by decide +kernel⟩

theorem witness_EventsAndAttention :
    let d := base.modQueue 0 (fun c => { c with unsignalled := 1, timer := some 0 })
    Settled (st base) ∧ Settled (st d) ∧ (d.queue 0).timer.isSome = true ∧ 0 < (d.queue 0).unsignalled ∧
      ¬((base.queue 0).timer.isSome = true ∧ 0 < (base.queue 0).unsignalled) ∧ d.host.resetN = true :=
  ⟨settled_st (by decide +kernel), settled_st (by decide +kernel), by decide +kernel⟩

/-- Words of QUEUE_INDEX for the control ring, S1, S8, CQ0 and CQ3, and words of one stream. -/
theorem witness_RegisterWriteIsItsCommand :
    Settled (st base) ∧ SettledNowFor allButGrant (st (running [] base |>.modStream 0 (fun x =>
      { x with request := .pending, tail := 4 }))) ∧ SettledNowFor allButGrant (st (after .enable Device.reset)) ∧
      grantPossible (after .enable Device.reset) = true ∧ (0#32).getLsbD 1 = false ∧ (0#32).getLsbD 0 = false ∧
      (3#32).getLsbD 1 = true ∧ (1#32).getLsbD 1 = false ∧ (1#32).getLsbD 0 = true ∧ queueIndexValid 0x00000FFF = true ∧ selectorOf 0x00000FFF = 0 ∧
      queueIndexValid 0x00010000 = true ∧ selectorOf 0x00010000 = 1 ∧ queueIndexValid 0x00080000 = true ∧
      selectorOf 0x00080000 = 8 ∧ queueIndexValid 0x00100000 = true ∧ selectorOf 0x00100000 = 16 ∧
      queueIndexValid 0x00130000 = true ∧ selectorOf 0x00130000 = 19 ∧ queueIndexValid 0x00090000 = false ∧
      0x80#32 &&& 0xFF#32 = BitVec.ofNat 32 (2 ^ 7) ∧ 0x100#32 &&& 0xFF#32 = 0 ∧ (2 ≠ 4 ∨ 0x04 ∉ [0x04, 0x0C, 0x10, 0x14, 0x18, 0x1C, 0x24, 0x28]) :=
  ⟨settled_st (by decide +kernel), withdrawing_st (by decide +kernel), withdrawing_st (by decide +kernel), by decide +kernel⟩

/-! ### Control records and device states -/

/-- The part with the control record of these fields at the head of its control buffer. -/
def withRecord (fields : List (Nat × Nat × Nat)) (d : Device) : Device := control [.record (rec' fields)] d

theorem witness_ControlNopIsConsumed :
    Settled (st (withRecord [(0, 1, 0x20)] base)) ∧ Takes (st (withRecord [(0, 1, 0x20)] base)) .cNop (rec' [(0, 1, 0x20)]) :=
  ⟨settled_st (by decide +kernel), takes_st (by decide +kernel)⟩

theorem witness_ControlRefusals :
    let bad := withRecord [(0, 1, 0x2B)] base
    let reserved := withRecord [(0, 1, 0x20), (31, 1, 1)] base
    let failed := control [.failedPlace 2] base
    SettledNow (st bad) ∧ SettledNow (st reserved) ∧ SettledNow (st failed) ∧ SettledNow (st Device.reset) ∧
      controlKindOf (StreamRecord.kind (rec' [(0, 1, 0x2B)])) = none ∧
      reservedClear .cNop (rec' [(0, 1, 0x20), (31, 1, 1)]) = false ∧ failed.ctl.buffer.head? = some (.failedPlace 2) ∧
      bad.ctl.mode = .on ∧ bad.ctl.query = none ∧ Device.reset.ctl.mode ≠ .on :=
  ⟨settledNow_st (by decide +kernel), settledNow_st (by decide +kernel), settledNow_st (by decide +kernel),
    settledNow_st (by decide +kernel), by decide +kernel⟩

theorem witness_TimeRecordsSetTimebase :
    let d (k : Nat) (m : TbMode) := withRecord [(0, 1, k)] (at' m 5 base)
    let noReference := withRecord [(0, 1, 0x24)] base
    let prescale (p : Nat) := withRecord [(0, 1, 0x21), (16, 2, p)] base
    (SettledNow (st (d 0x24 .held)) ∧ SettledNow (st (d 0x24 .running)) ∧ SettledNow (st (d 0x24 .lost)) ∧
      SettledNow (st noReference) ∧ SettledNow (st (d 0x25 .running)) ∧ SettledNow (st (prescale 1)) ∧
      SettledNow (st (prescale 257)) ∧ SettledNow (st (d 0x22 .held))) ∧
    (∀ m, Takes (st (d 0x24 m)) .timeRun (rec' [(0, 1, 0x24)])) ∧ Takes (st noReference) .timeRun (rec' [(0, 1, 0x24)]) ∧
    Takes (st (d 0x25 .running)) .timeHold (rec' [(0, 1, 0x25)]) ∧
    (∀ p ∈ [0, 1, 256, 257], Takes (st (prescale p)) .timeConfig (rec' [(0, 1, 0x21), (16, 2, p)])) ∧
    Takes (st (d 0x22 .held)) .timeSet (rec' [(0, 1, 0x22)]) ∧ noReference.tb.present = false ∧
    fieldAt (rec' [(0, 1, 0x21), (16, 2, 256)]) 16 2 = 256 := by
  refine ⟨⟨settledNow_st (by decide +kernel), settledNow_st (by decide +kernel), settledNow_st (by decide +kernel),
    settledNow_st (by decide +kernel), settledNow_st (by decide +kernel), settledNow_st (by decide +kernel),
    settledNow_st (by decide +kernel), settledNow_st (by decide +kernel)⟩, ?_, takes_st (by decide +kernel),
    takes_st (by decide +kernel), ?_, takes_st (by decide +kernel), by decide +kernel, by decide +kernel⟩
  · intro m; cases m <;> exact takes_st (by decide +kernel)
  · intro p hp
    simp only [List.mem_cons, List.not_mem_nil, or_false] at hp
    obtain rfl | rfl | rfl | rfl := hp <;> exact takes_st (by decide +kernel)

/-- Steps of 2^46 and 2^46 + 1; a backward step that an entry 2^46 ahead forbids and one that an entry at 2^46 − 1
allows; forward steps up to an entry and over it, within its window, beyond it, and over one not judged; over several; over
a train in phase START; and over a pattern. -/
theorem witness_TimeStepsMoveDeviceTime :
    let r (delta : Nat) := rec' [(0, 1, 0x23), (8, 6, delta)]
    let d (delta : Nat) (es : List Entry) : Device := { control [.record (r delta)] (at' .held 1000 base) with calendar := es }
    let set (t : Time) (late : Bool) := { entry .set t with lateRun := late }
    let far : Time := 70368744178664
    let cases : List (Nat × List Entry) :=
      [(70368744177665, []), (281474976710655, [set far false]), (281474976710655, [set (far - 1) false]),
       (70368744177664, []), (9, [set 1009 false]), (10, [set 1000 false]), (11, [set 1000 true]),
       (11, [set 1000 false]), (11, [entry .captureEnd 1000]),
       (11, [set 1000 false, { entry .pulse 1001 with phase := some ⟨.start, 1⟩ }, entry .armDeadline 1010, set 1011 false]),
       (11, [{ train .start 2 700 with due := 1000 }]), (11, [{ entry .patternStep 1000 with player := some 3 }]),
       (11, [{ entry .pulse 1000 with phase := some ⟨.ending, 1⟩ }, entry .set 1001, entry .marker 1002,
             { train .start 2 700 with due := 1000 }])]
    (∀ x ∈ cases,
      SettledNow (st (d x.1 x.2)) ∧ Takes (st (d x.1 x.2)) .timeStep (r x.1)) ∧
    (StreamRecord.time (r 70368744177665)).toInt = 2 ^ 46 + 1 ∧ (StreamRecord.time (r 281474976710655)).toInt = -1 ∧
    (StreamRecord.time (r 11)).toInt = 11 ∧ Machine.dist 1000 far = 2 ^ 46 ∧ Machine.dist 1000 1009 = 9 ∧
    Machine.dist 1000 1000 = 0 ∧ PointsBehind 1011 { period := 100, remaining := 2, driven := 3, missed := 0, origin := 700 } 11 1 := by
  refine ⟨?_, by decide +kernel, by decide +kernel, by decide +kernel, by decide +kernel, by decide +kernel,
    by decide +kernel, ⟨by decide, by decide, by decide, by decide, 0, by decide +kernel⟩⟩
  intro x hx
  simp only [List.mem_cons, List.not_mem_nil, or_false] at hx
  obtain rfl | rfl | rfl | rfl | rfl | rfl | rfl | rfl | rfl | rfl | rfl | rfl | rfl := hx <;>
    exact ⟨settledNow_st (by decide +kernel), takes_st (by decide +kernel)⟩

/-- An earlier late mark over a step within the window: cleared for a SET, a MARKER and a PRIMING pattern, kept for a PULSE
(R32, R33, R36, R38); and set beyond the window under LATE_RUN. -/
theorem test_step_judges_late_marks :
    let d := ({ at' .held 1000 base with
      calendar := [{ entry .set 1000 with lateMark := true }, { entry .marker 1000 with lateMark := true },
        { entry .patternStep 1000 with lateMark := true, player := some 3 },
        { entry .pulse 1000 with lateMark := true, phase := some ⟨.start, 1⟩ },
        { entry .set 1000 with window := 9, lateRun := true }] }).modPlayer 3 (fun x => { x with state := .priming })
    (stepForward 10 d).dev.calendar.map (fun e => (e.due, e.lateMark)) =
      [(1010, false), (1010, false), (1010, false), (1010, true), (1010, true)] := by decide +kernel

/-- The fields at the bounds of their ranges, with the stream, the queue or the line free and busy. -/
theorem witness_ConfigurationRecordsWrite :
    let stream (q : Nat) := [(0, 1, 0x26), (4, 1, 8), (5, 1, 7), (6, 1, q), (8, 8, 0xFFFFFFFFFFFFFE00), (16, 2, 16), (18, 2, 512)]
    let cq (q : Nat) := [(0, 1, 0x27), (4, 1, q), (5, 1, 1), (8, 8, 0x8000), (16, 2, 4096)]
    let line (m : Nat) := [(0, 1, 0x28), (4, 1, 31), (5, 1, m), (6, 1, 1), (7, 1, 15)]
    let threshold (v : Nat) := [(0, 1, 0x29), (4, 1, v)]
    let busy := (base.modStream 7 (fun x => { x with state := .halted })).modLine 31 (fun x => { x with owner := some 0 })
    (∀ d ∈ [base, busy], (∀ q ∈ [0, 3], Settled (st (withRecord (stream q) d)) ∧
        Takes (st (withRecord (stream q) d)) .configureStream (rec' (stream q)) ∧
        Takes (st (withRecord (cq q) d)) .configureCq (rec' (cq q))) ∧
      (∀ m ∈ [0, 1, 2], Takes (st (withRecord (line m) d)) .configureLine (rec' (line m)))) ∧
    (∀ v ∈ [7, 8], Settled (st (withRecord (threshold v) base)) ∧
      Takes (st (withRecord (threshold v) base)) .setThreshold (rec' (threshold v))) ∧
    RingInRange 0xFFFFFFFFFFFFFE00 16 12 ∧ RingInRange 0x8000 4096 12 ∧ fieldAt (rec' (stream 3)) 8 8 = 0xFFFFFFFFFFFFFE00 ∧
    fieldAt (rec' (stream 3)) 4 1 = (7 : StreamId).val + 1 ∧ fieldAt (rec' (line 2)) 7 1 = 15 ∧
    fieldAt (rec' (line 2)) 4 1 = (31 : LineId).val ∧ (busy.line 31).owner.isSome = true ∧ (base.line 31).owner = none ∧
    watchCount base 31 = 0 := by
  refine ⟨?_, ?_, by unfold RingInRange; decide +kernel⟩
  · intro d hd
    simp only [List.mem_cons, List.not_mem_nil, or_false] at hd
    refine ⟨?_, ?_⟩
    · intro q hq
      simp only [List.mem_cons, List.not_mem_nil, or_false] at hq
      obtain rfl | rfl := hd <;> obtain rfl | rfl := hq <;>
        exact ⟨settled_st (by decide +kernel), takes_st (by decide +kernel), takes_st (by decide +kernel)⟩
    · intro m hm
      simp only [List.mem_cons, List.not_mem_nil, or_false] at hm
      obtain rfl | rfl := hd <;> obtain rfl | rfl | rfl := hm <;> exact takes_st (by decide +kernel)
  · intro v hv
    simp only [List.mem_cons, List.not_mem_nil, or_false] at hv
    obtain rfl | rfl := hv <;> exact ⟨settled_st (by decide +kernel), takes_st (by decide +kernel)⟩

/-- Each field of the configuration records just out of its range. -/
theorem witness_ConfigurationRecordsWrite_refused :
    let stream (n p q size quota : Nat) :=
      [(0, 1, 0x26), (4, 1, n), (5, 1, p), (6, 1, q), (8, 8, 0x8000), (16, 2, size), (18, 2, quota)]
    let cq (q c size : Nat) := [(0, 1, 0x27), (4, 1, q), (5, 1, c), (8, 8, 0x8000), (16, 2, size)]
    let line (l m safe f : Nat) := [(0, 1, 0x28), (4, 1, l), (5, 1, m), (6, 1, safe), (7, 1, f)]
    (∀ x ∈ [stream 0 0 0 16 1, stream 9 0 0 16 1, stream 1 8 0 16 1, stream 1 0 4 16 1, stream 1 0 0 17 1,
        stream 1 0 0 16 0, stream 1 0 0 16 513],
      Settled (st (withRecord x base)) ∧ Takes (st (withRecord x base)) .configureStream (rec' x)) ∧
    (∀ x ∈ [cq 4 1 16, cq 1 0 16, cq 1 1 8], Takes (st (withRecord x base)) .configureCq (rec' x)) ∧
    (∀ x ∈ [line 32 0 0 0, line 0 3 0 0, line 0 0 2 0, line 0 0 0 16],
      Takes (st (withRecord x base)) .configureLine (rec' x)) ∧
    ¬RingInRange 0x8000 17 12 ∧ ¬RingInRange 0x8000 8 12 := by
  refine ⟨?_, ?_, ?_, by unfold RingInRange; decide +kernel⟩ <;> intro x hx <;>
    simp only [List.mem_cons, List.not_mem_nil, or_false] at hx
  · obtain rfl | rfl | rfl | rfl | rfl | rfl | rfl := hx <;>
      exact ⟨settled_st (by decide +kernel), takes_st (by decide +kernel)⟩
  · obtain rfl | rfl | rfl := hx <;> exact takes_st (by decide +kernel)
  · obtain rfl | rfl | rfl | rfl := hx <;> exact takes_st (by decide +kernel)

/-- The last address that a snapshot fits at, and the next multiple of 32; a response; and the fourth response counted. -/
theorem witness_QueryWritesSnapshot :
    let fields (a : Nat) := [(0, 1, 0x2A), (8, 8, a)]
    let inQuery (n : Nat) : Device := { base with
      ctl := { base.ctl with query := some { tag := 3, answered := n, failures := 0 } },
      writes := [writeOf .snapshot false] }
    (∀ a ∈ [0xFFFFFFFFFFFFFE00, 0xFFFFFFFFFFFFFE20], Settled (st (withRecord (fields a) base)) ∧
      Takes (st (withRecord (fields a) base)) .query (rec' (fields a))) ∧
    (queryAddress (rec' (fields 0xFFFFFFFFFFFFFE00))).toNat + 511 < 2 ^ 64 ∧
    ¬((queryAddress (rec' (fields 0xFFFFFFFFFFFFFE20))).toNat + 511 < 2 ^ 64) ∧ Settled (st (inQuery 3)) ∧
    (inQuery 3).writes.find? (fun y => y.identity == 4) = some (writeOf .snapshot false) ∧
    SettledFor beforeQuery (st (inQuery 4)) := by
  refine ⟨?_, by decide +kernel, by decide +kernel, settled_st (by decide +kernel), by decide +kernel,
    by unfold SettledFor; decide +kernel⟩
  intro a ha
  simp only [List.mem_cons, List.not_mem_nil, or_false] at ha
  obtain rfl | rfl := ha <;> exact ⟨settled_st (by decide +kernel), takes_st (by decide +kernel)⟩

theorem witness_DeviceStatesPass :
    let mode (m : DeviceMode) := base.modCtl (fun c => { c with mode := m })
    let orphan := reading (readOf .control 32 true) base
    let busy := reading (readOf .control 32 false) base
    let stopping := reading (readOf .control 32 false) (mode .stopping)
    (Settled (st orphan) ∧ Settled (st stopping) ∧ Settled (st (mode .off)) ∧ Settled (st base)) ∧
    let w := SettledNowFor allButGrant
    (w (st orphan) ∧ w (st stopping) ∧ w (st (mode .failed)) ∧ w (st base) ∧ w (st busy)) ∧
    (SettledFor beforeTeardown (st (mode .stopping)) ∧ SettledFor beforeTeardown (st stopping)) ∧
    quiet orphan = false ∧ quiet stopping = true ∧ base.reads = [] ∧ base.ctl.query = none ∧ base.outstanding = none ∧
    base.holding = [] ∧ busy.reads ≠ [] ∧ ∀ n, (base.stream n).state = .idle :=
  ⟨⟨settled_st (by decide +kernel), settled_st (by decide +kernel), settled_st (by decide +kernel),
    settled_st (by decide +kernel)⟩,
    ⟨withdrawing_st (by decide +kernel), withdrawing_st (by decide +kernel), withdrawing_st (by decide +kernel),
      withdrawing_st (by decide +kernel), withdrawing_st (by decide +kernel)⟩,
    by unfold SettledFor; decide +kernel, by decide +kernel⟩

/-- S1 with a read in flight, S2 HALTED with nothing under way, S3 RUNNING with a request pending, S4 IDLE. -/
theorem witness_DeviceStatesPass_active :
    let d := ((running [] (reading (readOf (.stream 0) 128 false) base)).modStream 0 (fun x =>
      { x with request := .inFlight 4 })).modStream 1 (fun x => { configured x with state := .halted }) |>.modStream 2
        (fun x => { configured x with state := .running, request := .pending, tail := 4 })
    SettledNowFor allButGrant (st d) ∧ grantPossible d = true ∧ quiet d = true ∧ d.ctl.mode = .on ∧ (d.stream 0).state = .running ∧
      inFlight (d.stream 0).request = true ∧ (d.stream 1).state = .halted ∧ (after .disable d).ctl.mode = .stopping ∧
      (after .disable base).ctl.mode = .off :=
  ⟨withdrawing_st (by decide +kernel), by decide +kernel⟩

theorem witness_ResetsPutEveryBlockBack : Settled (st base) ∧ (pinReset base).host.resetN = false :=
  ⟨settled_st (by decide +kernel), by decide +kernel⟩

end Sys2Proof.Tests
end

