-- ==== Sys2Proof/Proofs/DeviceTime.lean ====
section
/-! SUPPORT. The distance of a time from now, the class that goes with each distance (R3), and the order that distances
give the calendar's entries (R16). -/

namespace Sys2Proof.Machine

/-! ## Distances -/

/-- A distance is below the number of device times. -/
theorem dist_lt (now t : Time) : dist now t < 2 ^ 48 := (t - now).isLt

/-- A distance reaches the time that many ticks after now, across the wrap too. -/
theorem dist_eq_iff {now t : Time} {k : Nat} (hk : k < 2 ^ 48) : dist now t = k ↔ t = now + BitVec.ofNat 48 k := by
  have hdist : dist now t = k ↔ t - now = BitVec.ofNat 48 k := by
    rw [← BitVec.toNat_inj, BitVec.toNat_ofNat, Nat.mod_eq_of_lt hk]; rfl
  rw [hdist, sub_eq_iff_eq_add']

/-- A distance short of the whole round by `k` is that of the time `k` ticks before now. -/
theorem dist_eq_sub_iff {now t : Time} {k : Nat} (hk : 1 ≤ k) (hk' : k ≤ 2 ^ 48) :
    dist now t = 2 ^ 48 - k ↔ now = t + BitVec.ofNat 48 k := by
  have hround : BitVec.ofNat 48 (2 ^ 48 - k) = -BitVec.ofNat 48 k := by
    apply BitVec.eq_of_toNat_eq
    simp only [BitVec.toNat_neg, BitVec.toNat_ofNat]
    omega
  rw [dist_eq_iff (by omega), hround, ← sub_eq_add_neg, eq_sub_iff_add_eq, eq_comm]

/-- Now alone is at distance 0. -/
theorem dist_eq_zero_iff {now t : Time} : dist now t = 0 ↔ t = now := by
  rw [dist_eq_iff (by decide), BitVec.add_zero]

/-- Two times at the same distance are the same instant. -/
theorem dist_injective (now : Time) : Function.Injective (dist now) :=
  fun _ _ h => sub_left_injective (BitVec.eq_of_toNat_eq h)

/-! ## Classes -/

/-- The distances of each class, as R3 lists them. -/
def InClass (d : Nat) : TimeClass → Prop
  | .present => d = 0
  | .ahead k => 1 ≤ k ∧ k ≤ 2 ^ 46 ∧ d = k
  | .behind p => 1 ≤ p ∧ p ≤ 2 ^ 46 ∧ d = 2 ^ 48 - p
  | .outOfHorizon => 2 ^ 46 < d ∧ d < 2 ^ 48 - 2 ^ 46

/-- `classify` answers a class that the distance is in. -/
theorem inClass_classify (now t : Time) : InClass (dist now t) (classify now t) := by
  have hlt := dist_lt now t
  have hhorizon : Config.horizon = 2 ^ 46 := rfl
  have hmodulus : Config.timeModulus = 2 ^ 48 := rfl
  simp only [classify]
  split_ifs with hzero hahead hbehind
  · exact hzero
  · exact ⟨by omega, by omega, rfl⟩
  · exact ⟨by omega, by omega, by omega⟩
  · exact ⟨by omega, by omega⟩

/-- A class that the distance is in is the one that `classify` answers: the tests made before it fail. -/
theorem classify_of_inClass {now t : Time} {c : TimeClass} (h : InClass (dist now t) c) : classify now t = c := by
  have hhorizon : Config.horizon = 2 ^ 46 := rfl
  have hmodulus : Config.timeModulus = 2 ^ 48 := rfl
  simp only [classify]
  cases c with
  | present => exact if_pos h
  | ahead k =>
    obtain ⟨hlow, hhigh, rfl⟩ := h
    rw [if_neg (by omega), if_pos (by omega)]
  | behind p =>
    obtain ⟨hlow, hhigh, hd⟩ := h
    rw [if_neg (by omega), if_neg (by omega), if_pos (by omega), hmodulus, hd, Nat.sub_sub_self (by omega)]
  | outOfHorizon =>
    obtain ⟨hlow, hhigh⟩ := h
    rw [if_neg (by omega), if_neg (by omega), if_neg (by omega)]

/-- What `classify` answers, said by the distance alone. -/
theorem classify_eq_iff {now t : Time} {c : TimeClass} : classify now t = c ↔ InClass (dist now t) c :=
  ⟨fun h => h ▸ inClass_classify now t, classify_of_inClass⟩

/-- Now is the one time that is present. -/
theorem classify_eq_present_iff {now t : Time} : classify now t = .present ↔ t = now :=
  classify_eq_iff.trans dist_eq_zero_iff

/-- The times ahead are those 1 to 2^46 ticks after now. -/
theorem classify_eq_ahead_iff {now t : Time} {k : Nat} :
    classify now t = .ahead k ↔ 1 ≤ k ∧ k ≤ 2 ^ 46 ∧ t = now + BitVec.ofNat 48 k :=
  classify_eq_iff.trans (and_congr_right fun _ => and_congr_right fun _ => dist_eq_iff (by omega))

/-- The times behind are those that now is 1 to 2^46 ticks after. -/
theorem classify_eq_behind_iff {now t : Time} {p : Nat} :
    classify now t = .behind p ↔ 1 ≤ p ∧ p ≤ 2 ^ 46 ∧ now = t + BitVec.ofNat 48 p :=
  classify_eq_iff.trans (and_congr_right fun hp => and_congr_right fun _ => dist_eq_sub_iff hp (by omega))

/-! ## The order of entries -/

/-- An entry due earlier stays ahead, whatever the priorities (R16). -/
theorem staysAhead_of_dist_lt {now : Time} {e e' : Entry} (h : dist now e.due < dist now e'.due) :
    staysAhead now e e' = true := by
  simp [staysAhead, h]

/-- An entry due later does not stay ahead, whatever the priorities (R16). -/
theorem staysAhead_eq_false_of_dist_lt {now : Time} {e e' : Entry} (h : dist now e.due < dist now e'.due) :
    staysAhead now e' e = false := by
  simp [staysAhead, h.le, h.ne']

/-- Settles O13: each class is read off the distance, and the distance orders entries and tells times apart. -/
theorem distanceClassifies : Obligations.DistanceClassifies := by
  intro now t
  refine ⟨classify_eq_present_iff, fun _ => classify_eq_ahead_iff, fun _ => classify_eq_behind_iff, classify_eq_iff,
    fun _ h => dist_injective now h, ?_⟩
  rintro e e' rfl h
  exact ⟨staysAhead_of_dist_lt h, staysAhead_eq_false_of_dist_lt h⟩

end Sys2Proof.Machine
end

