-- ==== Sys2Proof/Proofs/ActionRecords.lean ====
section
/-! SUPPORT. The admission of a record that passes every stage: it is consumed, and its normal final completion is posted
when NOTIFY is set (R42, R51). -/

namespace Sys2Proof.Machine

/-! ## The record admitted -/

/-- The record at the head of a buffer that is not empty. -/
theorem headRecord_of_head? {x : Stream} {r : Record} (h : x.buffer.head? = some r) : headRecord x = r := by
  simp [headRecord, List.headD_eq_head?_getD, h]

/-- A stream that admits a record of the kind `k` takes that kind's command. -/
theorem admits_of_head {d : Device} {n : StreamId} {k : Option StreamKind} {r : Record}
    (hrun : (d.stream n).state = .running) (hhead : (d.stream n).buffer.head? = some r)
    (hkind : streamKindOf (StreamRecord.kind r) = k) : admits d n k = true := by
  have hne : (d.stream n).buffer ≠ [] := by intro he; simp [he] at hhead
  simp [admits, hrun, hne, headRecord_of_head? hhead, hkind]

/-- The command of a record that its stream admits is that record's admission (R46). -/
theorem admission_of_admits {s : State} {n : StreamId} {k : StreamKind} {r : Record} (h : Admits s n k r)
    (f : Device → Device) : admission n (some k) f s = .next { s with dev := f s.dev } := by
  obtain ⟨⟨hreset, hcalm⟩, hrun, hhead, hkind, -⟩ := h
  simp [admission, event_of_calm hreset hcalm, whenAdmits, admits_of_head hrun hhead hkind]

/-- 01h is the one kind byte of a NOP (12.7). -/
theorem kind_of_nop {b : Byte} (h : streamKindOf b = some .nop) : b = 0x01 := by
  have hcode : b.toNat = 1 := by
    unfold streamKindOf at h
    split at h <;> simp_all
  exact BitVec.eq_of_toNat_eq hcode

/-! ## The consumption -/

/-- A fetch test leaves the head where it is (R121). -/
@[simp] theorem Stream.refetched_head (threshold : Nat) (x : Stream) : (x.refetched threshold).head = x.head := by
  unfold Stream.refetched; split <;> rfl

/-- A consumption advances the head by one modulo the ring size (R51). -/
@[simp] theorem Stream.consumed_head (threshold : Nat) (x : Stream) :
    (x.consumed threshold).head = (x.head + 1) % x.size := Stream.refetched_head ..

/-- A consumption leaves device time as it was. -/
@[simp] theorem consume_tb (n : StreamId) (d : Device) : (consume n d).tb = d.tb := by rw [consume_frame]

/-- The context of the stream whose record is consumed. -/
@[simp] theorem consume_stream_self (n : StreamId) (d : Device) :
    (consume n d).stream n = (d.stream n).consumed d.threshold := by simp [consume_stream]

/-! ## The completion -/

/-- Every part of the device but the holding buffer and the queue contexts stands after a post. -/
theorem post_frame (q : CqId) (c : Completion) (d : Device) :
    post q c d = { d with holding := (post q c d).holding, queues := (post q c d).queues } := by
  unfold post addLost; split <;> [skip; split] <;> rfl

/-- A completion with a place in the holding buffer and an ACTIVE queue is taken, behind every record there, and it
carries the lost count (R142, R144). -/
theorem post_of_taken {q : CqId} {c : Completion} {d : Device}
    (h : d.holding.length < 64 ∧ (d.queue q).state = .active) :
    post q c d = { d.modQueue q (fun x => { x with lost := 0 }) with
      holding := d.holding ++ [{ queue := q, completion := c,
                                 overflow := if (d.queue q).lost = 0 then none
                                             else some (BitVec.ofNat 32 (d.queue q).lost, d.tb.now) }] } := by
  obtain ⟨hplace, hactive⟩ := h
  simp [post, holdingFull, Config.holdingPlaces, Nat.not_le.mpr hplace, hactive]

/-- A completion that is not taken is counted as its kind of loss (R142, R144). -/
theorem post_of_lost {q : CqId} {c : Completion} {d : Device}
    (h : ¬(d.holding.length < 64 ∧ (d.queue q).state = .active)) : post q c d = addLost q (lossOf c) d := by
  unfold post holdingFull Config.holdingPlaces
  by_cases hfull : 64 ≤ d.holding.length
  · simp [hfull]
  · have hactive : (d.queue q).state ≠ .active := fun ha => h ⟨Nat.not_le.mp hfull, ha⟩
    simp [hactive]

/-- A post takes its completion or counts it. -/
theorem posted_post (q : CqId) (c : Completion) (d : Device) : Posted q c d (post q c d) := by
  unfold Posted
  split
  · next htaken =>
    rw [post_of_taken htaken]
    exact ⟨rfl, fun k => Device.modQueue_queue d q k (fun x => { x with lost := 0 })⟩
  · next hlost =>
    rw [post_of_lost hlost]
    exact ⟨rfl, fun k => Device.modQueue_queue d q k _⟩

/-- The final completion of a record touches the holding buffer and the queue contexts alone. -/
theorem postNotified_frame (n : StreamId) (r : Record) (status : Status) (time : Time) (line : Nat) (x1 x2 : W32)
    (d : Device) : postNotified n r status time line x1 x2 d =
      { d with holding := (postNotified n r status time line x1 x2 d).holding,
               queues := (postNotified n r status time line x1 x2 d).queues } := by
  unfold postNotified
  split
  · exact post_frame ..
  · rfl

/-- The final completion of a record changes no stream. -/
@[simp] theorem postNotified_stream (n m : StreamId) (r : Record) (status : Status) (time : Time) (line : Nat)
    (x1 x2 : W32) (d : Device) : (postNotified n r status time line x1 x2 d).stream m = d.stream m := by
  rw [postNotified_frame]; rfl

/-- The final completion of a record is posted when NOTIFY is set, with its stream's head and to its target (R42, R51). -/
theorem postedIf_postNotified (n : StreamId) (r : Record) (status : Status) (time : Time) (line : Nat) (x1 x2 : W32)
    (d : Device) :
    PostedIf (StreamRecord.notify r) (d.stream n).target
      (plainCompletion (.stream n) (StreamRecord.kind r) status (StreamRecord.tag r) time line (d.stream n).head x1 x2)
      d (postNotified n r status time line x1 x2 d) := by
  unfold PostedIf postNotified
  split
  · exact posted_post ..
  · exact ⟨rfl, rfl⟩

/-- What a completion does to holding buffer and queues does not depend on the stream contexts. -/
theorem PostedIf.of_streams {b : Bool} {q : CqId} {c : Completion} {d e d' : Device}
    (he : e = { d with streams := e.streams }) (h : PostedIf b q c e d') : PostedIf b q c d d' := by
  rw [he] at h; exact h

/-! ## A record consumed with its final completion -/

/-- The stream contexts after a record is consumed and its final completion posted: its own stream has consumed it. -/
theorem onlyStream_postNotified_consume (n : StreamId) (r : Record) (status : Status) (time : Time) (line : Nat)
    (x1 x2 : W32) (d : Device) : OnlyStream n ((d.stream n).consumed d.threshold) d
      (postNotified n r status time line x1 x2 (consume n d)) := by
  intro m
  rw [postNotified_stream, consume_stream]

/-- A record consumed with its final completion touches the stream contexts, the holding buffer and the queues alone. -/
theorem postNotified_consume_frame (n : StreamId) (r : Record) (status : Status) (time : Time) (line : Nat)
    (x1 x2 : W32) (d : Device) :
    let d' := postNotified n r status time line x1 x2 (consume n d)
    d' = { d with streams := d'.streams, holding := d'.holding, queues := d'.queues } := by
  dsimp only
  rw [postNotified_frame, consume_frame]

/-! ## NOP -/

/-- The admission of a NOP with its fields in range (R53). -/
theorem admitNop_of_fieldsOk {n : StreamId} {d : Device} {r : Record} (hhead : (d.stream n).buffer.head? = some r)
    (hok : fieldsOk .nop r = true) :
    admitNop n d = postNotified n r .nopDone d.tb.now 0 0 0 (consume n d) := by
  simp [admitNop, headRecord_of_head? hhead, hok]

/-- NOP is its admission. -/
theorem exec_nop (n : StreamId) (s : State) : exec (.nop n) s = admission n (some .nop) (admitNop n) s := rfl

/-- Settles O37: the NOP is consumed, and its completion is posted with the stream's head after the consumption. -/
theorem nopIsConsumed : Obligations.NopIsConsumed := by
  intro s n r h
  have ⟨_, _, hhead, hkind, hok⟩ := h
  refine ⟨_, (exec_nop n s).trans (admission_of_admits h _), rfl, ?_⟩
  dsimp only
  rw [admitNop_of_fieldsOk hhead hok]
  have hposted := (postedIf_postNotified n r .nopDone s.dev.tb.now 0 0 0 (consume n s.dev)).of_streams
    (consume_frame n s.dev)
  rw [consume_stream_self, kind_of_nop hkind] at hposted
  exact ⟨postNotified_consume_frame .., onlyStream_postNotified_consume n r _ _ _ _ _ _, Stream.consumed_head ..,
    hposted⟩

end Sys2Proof.Machine
end

/-! SUPPORT. The control ring processor's taking of a record: the consumption of its entry, and the one completion that
answers it, posted to CQ0 (R160, R161). -/

namespace Sys2Proof.Machine

/-! ## The record taken -/

/-- A record that the processor takes is given to its kind's meaning (R160). -/
theorem whenTakes_of_takes {s : State} {k : ControlKind} {r : Record} (h : Takes s k r) (f : Record → Device → Device) :
    whenTakes (some k) f s.dev = f r s.dev := by
  obtain ⟨hon, hquery, hhead, hkind, -⟩ := h
  obtain ⟨rest, hbuffer⟩ := List.head?_eq_some_iff.mp hhead
  simp [whenTakes, hbuffer, takesControl, hon, hquery, hkind]

/-- 20h is the one kind byte of a C_NOP (12.7). -/
theorem kind_of_cNop {b : Byte} (h : controlKindOf b = some .cNop) : b = 0x20 := by
  have hcode : b.toNat = 0x20 := by
    unfold controlKindOf at h
    split at h <;> simp_all
  exact BitVec.eq_of_toNat_eq hcode

/-! ## The consumption -/

/-- A consumption advances the control ring's head by one modulo the ring size; the fetch test leaves it there (R160). -/
@[simp] theorem Control.consumed_head (c : Control) : c.consumed.head = (c.head + 1) % c.size := by
  simp only [Control.consumed]; split <;> rfl

/-! ## The answer -/

/-- What a post to a queue finds and leaves does not depend on the control ring processor. -/
theorem Posted.of_ctl {q : CqId} {c : Completion} {d e d' : Device} (he : e = { d with ctl := e.ctl })
    (h : Posted q c e d') : Posted q c d d' := by
  rw [he] at h; exact h

/-- A completion of the control ring posted after the consumption answers the entry, with the head that follows it
(R160). -/
theorem controlAnswered_postControl (kind : Byte) (status : Status) (tag : Tag) (line : Nat) (x1 x2 : W32) (d : Device) :
    ControlAnswered kind status tag line x1 x2 d (postControl kind status tag line x1 x2 (controlConsume d)) := by
  rw [controlConsume_eq]
  exact ⟨post_frame .., (posted_post ..).of_ctl rfl⟩

/-- CONTROL_DONE of a record, posted after the record's consumption, answers it (R160). -/
theorem controlAnswered_controlDone (r : Record) (line : Nat) (x1 x2 : W32) (d : Device) :
    ControlAnswered (StreamRecord.kind r) .controlDone (StreamRecord.tag r) line x1 x2 d
      (controlDone r line x1 x2 (controlConsume d)) :=
  controlAnswered_postControl ..

/-! ## C_NOP -/

/-- A C_NOP with no reserved part set is consumed and answered with CONTROL_DONE (R161). -/
theorem takeNop_of_reservedClear {r : Record} (h : reservedClear .cNop r = true) (d : Device) :
    takeNop r d = controlDone r 0 0 0 (controlConsume d) := by
  simp [takeNop, h]

/-- C_NOP is its taking. -/
theorem exec_cNop (s : State) : exec .cNop s = event (whenTakes (some .cNop) takeNop) s := rfl

/-- A C_NOP taken with nothing urgent before it is consumed and answered with CONTROL_DONE (R161). -/
theorem exec_cNop_of_takes {s : State} {r : Record} (hsettled : Settled s) (htakes : Takes s .cNop r) :
    exec .cNop s = .next { s with dev := controlDone r 0 0 0 (controlConsume s.dev) } := by
  have ⟨hreset, hcalm⟩ := hsettled
  have ⟨_, _, _, _, hclear⟩ := htakes
  rw [exec_cNop, event_of_calm hreset hcalm, whenTakes_of_takes htakes, takeNop_of_reservedClear hclear]

/-- Settles O53: the C_NOP is consumed, and CONTROL_DONE is posted with the head after the consumption. -/
theorem controlNopIsConsumed : Obligations.ControlNopIsConsumed := by
  intro s r hsettled htakes
  have ⟨_, _, _, hkind, _⟩ := htakes
  refine ⟨Control.consumed_head _, _, exec_cNop_of_takes hsettled htakes, rfl, ?_⟩
  exact kind_of_cNop hkind ▸ controlAnswered_controlDone r 0 0 0 s.dev

end Sys2Proof.Machine

section
/-! SUPPORT. A state whose one entry is due now, on which a write that names no register still has an effect (10.1). -/

namespace Sys2Proof.Machine

/-- A MARKER due at device time 0. -/
def dueMarker : Entry :=
  { kind := .marker, stream := 0, prio := 0, tag := 0, due := 0, lines := 0, levels := 0, notify := false, window := 0,
    lateRun := false, lateMark := false, phase := none, train := none, player := none, context := none }

/-- The part after reset with the timebase RUNNING at device time 0 and the MARKER of that time in the calendar. -/
def markerDue : Device :=
  { Device.reset with
    tb := { Timebase.reset with mode := .running, present := true, qual := 4096 }, calendar := [dueMarker] }

theorem settled_markerDue : Settled { dev := markerDue, pending := [] } := ⟨by decide, by decide +kernel⟩

/-- Before device time moves the MARKER expires. -/
theorem settle_markerDue_calendar : (settle true allButGrant markerDue).calendar = [] := by decide +kernel

end Sys2Proof.Machine
end

section
/-! SUPPORT. What every event of the part keeps. `Keeps d d'` says that whatever invariant the device `d` meets, `d'`
meets, and that RESET_N stays high; it is reflexive and transitive, so an operation keeps every invariant when each
update of one block in it does. -/

namespace Sys2Proof.Machine

/-! ## Whatever is kept -/

/-- The invariants of the blocks other than the calendar that `d` meets, `d'` meets, and RESET_N stays high. -/
structure KeepsBlocks (d d' : Device) : Prop where
  holding : HoldingWf d → HoldingWf d'
  reads : ReadsWf d → ReadsWf d'
  timebase : TimebaseWf d → TimebaseWf d'
  lines : LinesWf d → LinesWf d'
  waits : WaitsWf d → WaitsWf d'
  event : EventWf d → EventWf d'
  queues : QueuesWf d → QueuesWf d'
  up : d.host.resetN = true → d'.host.resetN = true

/-- Every invariant that `d` meets, `d'` meets. -/
structure Keeps (d d' : Device) : Prop extends KeepsBlocks d d' where
  calendar : CalendarWf d → CalendarWf d'
  quota : QuotaWf d → QuotaWf d'
  due : DueWf d → DueWf d'

theorem KeepsBlocks.refl (d : Device) : KeepsBlocks d d := ⟨id, id, id, id, id, id, id, id⟩

theorem KeepsBlocks.trans {a b c : Device} (h : KeepsBlocks a b) (g : KeepsBlocks b c) : KeepsBlocks a c :=
  ⟨g.holding ∘ h.holding, g.reads ∘ h.reads, g.timebase ∘ h.timebase, g.lines ∘ h.lines, g.waits ∘ h.waits,
    g.event ∘ h.event, g.queues ∘ h.queues, g.up ∘ h.up⟩

theorem Keeps.refl (d : Device) : Keeps d d := ⟨.refl d, id, id, id⟩

theorem Keeps.trans {a b c : Device} (h : Keeps a b) (g : Keeps b c) : Keeps a c :=
  ⟨h.toKeepsBlocks.trans g.toKeepsBlocks, g.calendar ∘ h.calendar, g.quota ∘ h.quota, g.due ∘ h.due⟩

/-- What both branches of a choice keep, the choice keeps. -/
theorem Keeps.ite {c : Prop} [Decidable c] {d a b : Device} (h : c → Keeps d a) (g : ¬c → Keeps d b) :
    Keeps d (if c then a else b) := by
  split
  · exact h ‹_›
  · exact g ‹_›

/-- No invariant speaks of the reports, the open instant, the handed edges, the thresholds, the control ring, the writes
or the arbiter's positions. -/
theorem Keeps.of_unspoken {d d' : Device}
    (h : d' = { d with reports := d'.reports, instantOpen := d'.instantOpen, stagedMask := d'.stagedMask,
                       stagedLevels := d'.stagedLevels, edges := d'.edges, threshold := d'.threshold,
                       outstanding := d'.outstanding, ctl := d'.ctl, writes := d'.writes,
                       roundRobin := d'.roundRobin, nextWrite := d'.nextWrite }) : Keeps d d' := by
  rw [h]; exact ⟨⟨id, id, id, id, id, id, id, id⟩, id, id, id⟩

/-- What each step of a fold keeps, the fold keeps. -/
theorem keeps_foldl {α : Type} (f : Device → α → Device) (l : List α) (h : ∀ d, ∀ a ∈ l, Keeps d (f d a)) (d : Device) :
    Keeps d (l.foldl f d) := by
  induction l generalizing d with
  | nil => exact .refl d
  | cons a l ih =>
    exact (h d a (by simp)).trans (ih (fun d b hb => h d b (List.mem_cons_of_mem a hb)) _)

/-! ## The invariants of one stream, queue and timebase -/

/-- A record that waits for space or for a player has its fields checked. -/
def Stream.Resumable (x : Stream) : Prop :=
  x.state = .waiting → (x.reason = .space ∨ x.reason = .player) →
    ∃ r k, x.buffer.head? = some r ∧ streamKindOf (StreamRecord.kind r) = some k ∧ fieldsOk k r = true

/-- A stream that holds `held` entries holds no more than its quota, and none while IDLE or STOPPING. -/
def Stream.HoldsWithin (held : Nat) (x : Stream) : Prop :=
  held ≤ x.quota ∧ (x.state = .idle ∨ x.state = .stopping → held = 0)

/-- A change of the context of one stream, which holds `held` entries, that keeps every invariant. -/
structure StreamKept (held : Nat) (x y : Stream) : Prop where
  waits : (x.reason = .noWait ↔ x.state ≠ .waiting) → (y.reason = .noWait ↔ y.state ≠ .waiting)
  quota : x.HoldsWithin held → y.HoldsWithin held
  due : x.Resumable → y.Resumable

/-- The counts of a queue stay in their widths (R137, R147). -/
def Queue.Wf (c : Queue) : Prop :=
  c.lost ≤ 0xFFFFFFFF ∧ c.unsignalled ≤ 255 ∧ (c.timer.isSome = true → 0 < c.unsignalled)

/-! ## Updates of one block -/

/-- A change of one stream's context after what has kept every invariant so far; the invariant of the calendar's due
times may be taken to have held at the beginning. -/
theorem Keeps.modStream {d₀ d : Device} {n : StreamId} {f : Stream → Stream} (h : Keeps d₀ d)
    (hwaits : ((d.stream n).reason = .noWait ↔ (d.stream n).state ≠ .waiting) →
      ((f (d.stream n)).reason = .noWait ↔ (f (d.stream n)).state ≠ .waiting))
    (hquota : (d.stream n).HoldsWithin (heldCount d n) → (f (d.stream n)).HoldsWithin (heldCount d n))
    (hdue : DueWf d₀ → (d.stream n).Resumable → (f (d.stream n)).Resumable) : Keeps d₀ (d.modStream n f) where
  up := h.up
  holding := h.holding
  reads := h.reads
  timebase := h.timebase
  lines := h.lines
  event := h.event
  queues := h.queues
  calendar := h.calendar
  waits w m := by
    rw [Device.modStream_stream]
    split
    · exact hwaits (h.waits w n)
    · exact h.waits w m
  quota w m := by
    rw [Device.modStream_stream]
    split
    · next hm => subst hm; exact hquota (h.quota w m)
    · exact h.quota w m
  due w := by
    obtain ⟨order, near, parts, holds, resumable⟩ := h.due w
    refine ⟨order, near, parts, holds, fun m => ?_⟩
    rw [Device.modStream_stream]
    split
    · exact hdue w (resumable n)
    · exact resumable m

theorem keeps_modStream {d : Device} {n : StreamId} {f : Stream → Stream}
    (h : StreamKept (heldCount d n) (d.stream n) (f (d.stream n))) : Keeps d (d.modStream n f) :=
  (Keeps.refl d).modStream h.waits h.quota fun _ => h.due

/-- A change of a stream's context that keeps state, reason and quota, and the record at the head. -/
theorem StreamKept.of_same {held : Nat} {x y : Stream} (hs : y.state = x.state) (hr : y.reason = x.reason)
    (hq : y.quota = x.quota) (hb : ∀ r, x.buffer.head? = some r → y.buffer.head? = some r) : StreamKept held x y where
  waits := by rw [hs, hr]; exact id
  quota := by simp only [Stream.HoldsWithin, hs, hq]; exact id
  due h := by
    intro w p
    rw [hs] at w; rw [hr] at p
    obtain ⟨r, k, hhead, hk⟩ := h w p
    exact ⟨r, k, hb r hhead, hk⟩

/-- A change that leaves a stream in a state other than WAITING, IDLE and STOPPING, with no wait. -/
theorem StreamKept.of_active {held : Nat} {x y : Stream} (hs : y.state = .running ∨ y.state = .halted)
    (hr : y.reason = .noWait) (hq : y.quota = x.quota) : StreamKept held x y := by
  have hw : y.state ≠ .waiting := by rcases hs with hs | hs <;> simp [hs]
  refine ⟨fun _ => by simp [hr, hw], fun h => ⟨hq ▸ h.1, fun hi => ?_⟩, fun _ h => absurd h hw⟩
  rcases hs with hs | hs <;> simp [hs] at hi

theorem keeps_modQueue {d : Device} {q : CqId} {f : Queue → Queue}
    (hstate : (d.queue q).state = .active → (f (d.queue q)).state = .active)
    (hwf : (d.queue q).Wf → (f (d.queue q)).Wf) : Keeps d (d.modQueue q f) where
  up := id
  reads := id
  timebase := id
  lines := id
  waits := id
  event := id
  calendar := id
  quota := id
  due := id
  holding w := by
    obtain ⟨hl, hq⟩ := w
    refine ⟨hl, fun x hx => ?_⟩
    rw [Device.modQueue_queue]
    split
    · next hxq => exact hstate (hxq ▸ hq x hx)
    · exact hq x hx
  queues w k := by
    rw [Device.modQueue_queue]
    split
    · exact hwf (w q)
    · exact w k

theorem keeps_modTb {d : Device} {f : Timebase → Timebase} (hnow : (f d.tb).now = d.tb.now)
    (hwf : TimebaseWf d → TimebaseWf (d.modTb f)) : Keeps d (d.modTb f) where
  up := id
  holding := id
  reads := id
  timebase := hwf
  lines := id
  waits := id
  event := id
  queues := id
  calendar := id
  quota := id
  due w := by
    unfold DueWf
    rw [Device.modTb_tb, hnow]
    exact w

theorem keeps_modLine {d : Device} {l : LineId} {f : Line → Line} (h : (d.line l).Wf → (f (d.line l)).Wf) :
    Keeps d (d.modLine l f) where
  up := id
  holding := id
  reads := id
  timebase := id
  waits := id
  event := id
  queues := id
  calendar := id
  quota := id
  due := id
  lines w k := by
    rw [Device.modLine_line]
    split
    · exact h (w l)
    · exact w k

/-- A change of the line table that keeps every line well-formed. -/
theorem Keeps.of_lines {d : Device} (ls : Vector Line 32) (h : LinesWf d → LinesWf { d with lines := ls }) :
    Keeps d { d with lines := ls } := ⟨⟨id, id, id, h, id, id, id, id⟩, id, id, id⟩

theorem keeps_mapLines {d : Device} {f : LineId → Line → Line} (h : ∀ l x, x.Wf → (f l x).Wf) :
    Keeps d (d.mapLines f) :=
  .of_lines _ (fun w k => (Device.mapLines_line d f k).symm ▸ h k _ (w k))

/-- A player's buffer may lose steps, and take steps whose hold fits its field (6.3). -/
theorem keeps_modPlayer {d : Device} {p : PlayerId} {f : Player → Player}
    (h : ∀ x ∈ (f (d.player p)).buffer, x ∈ (d.player p).buffer ∨ x.hold < 2 ^ 24) : Keeps d (d.modPlayer p f) where
  up := id
  holding := id
  reads := id
  timebase := id
  lines := id
  waits := id
  event := id
  queues := id
  calendar := id
  quota := id
  due w := by
    obtain ⟨order, near, parts, holds, resumable⟩ := w
    refine ⟨order, near, parts, fun k x hx => ?_, resumable⟩
    rw [Device.modPlayer_player] at hx
    split at hx
    · exact (h x hx).elim (holds p x) id
    · exact holds k x hx

theorem keeps_modCtl {d : Device} {f : Control → Control} : Keeps d (d.modCtl f) := .of_unspoken rfl

theorem keeps_modHost {d : Device} {f : HostPort → HostPort} (h : EventWf d → EventWf (d.modHost f))
    (hup : d.host.resetN = true → (f d.host).resetN = true) : Keeps d (d.modHost f) :=
  ⟨⟨id, id, id, id, id, h, id, hup⟩, id, id, id⟩

/-- The calendar may lose entries (R20). -/
theorem keeps_sublist {d d' : Device} (h : d' = { d with calendar := d'.calendar, reports := d'.reports })
    (hl : d'.calendar.Sublist d.calendar) : Keeps d d' := by
  rw [h]
  refine ⟨⟨id, id, id, id, id, id, id, id⟩, fun w => hl.length_le.trans w, fun w n => ?_, fun w => ?_⟩
  · have hle : heldCount { d with calendar := d'.calendar, reports := d'.reports } n ≤ heldCount d n :=
      (hl.filter _).length_le
    obtain ⟨hquota, hnone⟩ := w n
    exact ⟨hle.trans hquota, fun hs => Nat.le_zero.mp (hnone hs ▸ hle)⟩
  · obtain ⟨order, near, parts, rest⟩ := w
    exact ⟨order.sublist hl, fun e he => near e (hl.subset he), fun e he => parts e (hl.subset he), rest⟩

end Sys2Proof.Machine
end

section
/-! SUPPORT. The operations that every command shares keep every invariant. -/

namespace Sys2Proof.Machine

/-! ## EVENT -/

/-- Bits of EVENT that carry a field may be set (R167). -/
theorem keeps_setEvent {m : W32} (hm : m &&& ~~~0x7FF#32 = 0) (d : Device) : Keeps d (setEvent m d) :=
  keeps_modHost (fun ⟨he, hmask⟩ => ⟨by
    change (d.host.event ||| m) &&& ~~~0x7FF#32 = 0
    rw [BitVec.and_or_distrib_right, he, hm]; rfl, hmask⟩) id

/-- Any bits of EVENT may be cleared (R167). -/
theorem keeps_clearEvent (m : W32) (d : Device) : Keeps d (clearEvent m d) :=
  keeps_modHost (fun ⟨he, hmask⟩ => ⟨by
    change d.host.event &&& ~~~m &&& ~~~0x7FF#32 = 0
    rw [BitVec.and_assoc, BitVec.and_comm (~~~m), ← BitVec.and_assoc, he]; simp, hmask⟩) id

theorem keeps_cmdIgnored (d : Device) : Keeps d (cmdIgnored d) := keeps_setEvent (by decide) d

theorem attnBit_within (q : CqId) : attnBit q &&& ~~~0x7FF#32 = 0 := by revert q; decide

theorem faultBit_within (q : CqId) : faultBit q &&& ~~~0x7FF#32 = 0 := by revert q; decide

/-! ## Completions and coalescing -/

theorem keeps_addLost (q : CqId) (k : Nat) (d : Device) : Keeps d (addLost q k d) :=
  keeps_modQueue id fun ⟨_, hu, ht⟩ => ⟨Nat.min_le_left .., hu, ht⟩

/-- The holding buffer takes a record for an ACTIVE queue while it holds fewer than 64 (R142). -/
theorem keeps_hold {d : Device} {h : Held} (hlen : d.holding.length < 64) (hact : (d.queue h.queue).state = .active) :
    Keeps d { d with holding := d.holding ++ [h] } := by
  refine ⟨⟨fun ⟨_, hall⟩ => ⟨by simpa using hlen, fun x hx => ?_⟩, id, id, id, id, id, id, id⟩, id, id, id⟩
  rcases List.mem_append.mp hx with hx | hx
  · exact hall x hx
  · rw [List.mem_singleton.mp hx]; exact hact

theorem keeps_post (q : CqId) (c : Completion) (d : Device) : Keeps d (post q c d) := by
  by_cases h : d.holding.length < 64 ∧ (d.queue q).state = .active
  · rw [post_of_taken h]
    have hlost : Keeps d (d.modQueue q fun x => { x with lost := 0 }) :=
      keeps_modQueue id fun ⟨_, hu, ht⟩ => ⟨Nat.zero_le _, hu, ht⟩
    exact hlost.trans (keeps_hold h.1 (by simpa using h.2))
  · rw [post_of_lost h]; exact keeps_addLost ..

theorem keeps_postStream (n : StreamId) (kind : Byte) (status : Status) (tag : Tag) (time : Time) (line : Nat)
    (x1 x2 : W32) (d : Device) : Keeps d (postStream n kind status tag time line x1 x2 d) := keeps_post ..

theorem keeps_postTimebase (status : Status) (d : Device) : Keeps d (postTimebase status d) := keeps_post ..

theorem keeps_postNotified (n : StreamId) (r : Record) (status : Status) (time : Time) (line : Nat) (x1 x2 : W32)
    (d : Device) : Keeps d (postNotified n r status time line x1 x2 d) := by
  unfold postNotified
  split
  · exact keeps_post ..
  · exact .refl d

theorem keeps_postControl (kind : Byte) (status : Status) (tag : Tag) (line : Nat) (x1 x2 : W32) (d : Device) :
    Keeps d (postControl kind status tag line x1 x2 d) := keeps_post ..

theorem keeps_controlDone (r : Record) (line : Nat) (x1 x2 : W32) (d : Device) :
    Keeps d (controlDone r line x1 x2 d) := keeps_post ..

theorem keeps_raiseAttention (q : CqId) (d : Device) : Keeps d (raiseAttention q d) := by
  have hq : Keeps d (d.modQueue q fun c => { c with unsignalled := 0, timer := none }) :=
    keeps_modQueue id fun ⟨hl, _, _⟩ => ⟨hl, Nat.zero_le _, by simp⟩
  exact hq.trans (keeps_setEvent (attnBit_within q) _)

theorem keeps_signalRemaining (q : CqId) (d : Device) : Keeps d (signalRemaining q d) := by
  unfold signalRemaining
  split
  · exact keeps_raiseAttention q d
  · exact .refl d

/-- A coalescing timer starts with unsignalled records (R147). -/
theorem keeps_startTimer {q : CqId} {d : Device} (hu : 0 < (d.queue q).unsignalled) :
    Keeps d (d.modQueue q fun c => { c with timer := some 0 }) :=
  keeps_modQueue id fun ⟨hl, h, _⟩ => ⟨hl, h, fun _ => hu⟩

theorem keeps_coalesce (q : CqId) (d : Device) : Keeps d (coalesce q d) := by
  have hcount : Keeps d (d.modQueue q fun c => { c with unsignalled := min 255 ((d.queue q).unsignalled + 1) }) :=
    keeps_modQueue id fun ⟨hl, _, _⟩ => ⟨hl, Nat.min_le_left .., fun _ => Nat.lt_min.mpr ⟨by omega, by omega⟩⟩
  unfold coalesce
  dsimp only
  split
  · exact hcount
  · split
    · exact hcount.trans (keeps_raiseAttention q _)
    · split
      · exact hcount.trans (keeps_startTimer (by simp))
      · exact hcount

/-! ## Lines -/

/-- A drive reaches OUTPUT lines alone, whose output level is free (R74). -/
theorem keeps_applyDrive (m levels : Mask) (d : Device) : Keeps d (applyDrive m levels d) :=
  keeps_mapLines fun l x hx => by
    split
    · next h =>
      obtain ⟨-, hmode⟩ := Bool.and_eq_true_iff.mp h
      exact ⟨fun hm => absurd (by simpa using hmode) hm, hx.2⟩
    · exact hx

theorem keeps_stageDrive (m levels : Mask) (d : Device) : Keeps d (stageDrive m levels d) := .of_unspoken rfl

theorem keeps_unstage (d : Device) : Keeps d { d with stagedMask := 0, stagedLevels := 0 } := .of_unspoken rfl

theorem keeps_flushDrives (d : Device) : Keeps d (flushDrives d) :=
  (keeps_applyDrive d.stagedMask d.stagedLevels d).trans (keeps_unstage _)

/-! ## The calendar -/

theorem keeps_freed (e : Entry) (d : Device) : Keeps d (freed e d) := .of_unspoken rfl

theorem keeps_removeEntries (p : Entry → Bool) (d : Device) : Keeps d (removeEntries p d) :=
  keeps_sublist rfl List.filter_sublist

/-! ## Streams -/

theorem keeps_fetchTest (n : StreamId) (d : Device) : Keeps d (fetchTest n d) := by
  unfold fetchTest
  split
  · exact keeps_modStream (.of_same rfl rfl rfl fun _ => id)
  · exact .refl d

/-- A stream that is not WAITING may consume its record (R51). -/
theorem keeps_consume {n : StreamId} {d : Device} (h : (d.stream n).state ≠ .waiting) : Keeps d (consume n d) := by
  unfold consume
  refine Keeps.trans (keeps_modStream ⟨id, id, fun _ hw => absurd hw h⟩) (keeps_fetchTest n _)

/-- The fetch test changes neither the state nor the quota of a stream. -/
@[simp] theorem Stream.consumed_state (threshold : Nat) (x : Stream) : (x.consumed threshold).state = x.state := by
  unfold Stream.consumed Stream.refetched; split <;> rfl

@[simp] theorem Stream.consumed_quota (threshold : Nat) (x : Stream) : (x.consumed threshold).quota = x.quota := by
  unfold Stream.consumed Stream.refetched; split <;> rfl

/-- Two changes of one stream's context are one. -/
theorem Device.modStream_modStream (d : Device) (n : StreamId) (f g : Stream → Stream) :
    (d.modStream n f).modStream n g = d.modStream n (fun x => g (f x)) := by
  simp [Device.modStream, Device.stream, Vector.get_eq_getElem]

/-- A change that changes nothing. -/
theorem Device.modStream_id (d : Device) (n : StreamId) : d.modStream n (fun x => x) = d := by
  simp [Device.modStream, Device.stream, Vector.get_eq_getElem]

/-- A fetch test is a change of its stream's context (R121). -/
theorem fetchTest_eq_modStream (n : StreamId) (d : Device) :
    fetchTest n d = d.modStream n (Stream.refetched d.threshold) := by
  unfold fetchTest
  split
  · next h => simp only [Device.modStream, refetched_eq, h, if_true]
  · next h => simp only [Device.modStream, refetched_eq, h]; exact (Device.modStream_id d n).symm

/-- A consumption is a change of its stream's context (R51). -/
theorem consume_eq_modStream (n : StreamId) (d : Device) :
    consume n d = d.modStream n (Stream.consumed d.threshold) := by
  unfold consume Stream.consumed
  rw [fetchTest_eq_modStream, Device.modStream_modStream]
  simp

/-- A stream consumes its record and goes on, whatever it waited for (R60, R73, R95). -/
theorem keeps_setRunning_consume (n : StreamId) (d : Device) : Keeps d (setRunning n (consume n d)) := by
  unfold setRunning
  rw [consume_eq_modStream, Device.modStream_modStream]
  exact keeps_modStream (.of_active (.inl rfl) rfl (Stream.consumed_quota ..))

theorem keeps_setRunning (n : StreamId) (d : Device) : Keeps d (setRunning n d) :=
  keeps_modStream (.of_active (.inl rfl) rfl rfl)

/-- A stream may wait for an arm wait or at a barrier (R126). -/
theorem keeps_waitFor {w : WaitReason} (hw : w ≠ .noWait) (hs : w ≠ .space) (hp : w ≠ .player) (n : StreamId)
    (d : Device) : Keeps d (waitFor n w d) :=
  keeps_modStream ⟨fun _ => by simp [hw], fun h => ⟨h.1, by simp⟩, fun _ _ h => by simp [hs, hp] at h⟩

theorem keeps_endArmWait (n : StreamId) (d : Device) : Keeps d (endArmWait n d) :=
  (keeps_modStream (.of_same rfl rfl rfl fun _ => id)).trans (keeps_removeEntries ..)

theorem keeps_haltStream (n : StreamId) (d : Device) : Keeps d (haltStream n d) :=
  (keeps_endArmWait n d).trans (keeps_modStream (.of_active (.inr rfl) rfl rfl))

theorem keeps_refuse (n : StreamId) (code : RefusalCode) (line : Nat) (x2 : W32) (d : Device) :
    Keeps d (refuse n code line x2 d) := (keeps_haltStream n d).trans (keeps_postStream ..)

theorem keeps_advanceAnchor (n : StreamId) (r : Record) (t : Time) (d : Device) : Keeps d (advanceAnchor n r t d) := by
  unfold advanceAnchor
  split
  · exact keeps_modStream (.of_same rfl rfl rfl fun _ => id)
  · exact .refl d

/-! ## The control ring -/

theorem keeps_controlFetchTest (d : Device) : Keeps d (controlFetchTest d) := by
  unfold controlFetchTest
  split
  · exact keeps_modCtl
  · exact .refl d

theorem keeps_controlConsume (d : Device) : Keeps d (controlConsume d) := keeps_modCtl.trans (keeps_controlFetchTest _)

end Sys2Proof.Machine
end

section
/-! SUPPORT. The order of the calendar's list (R16), and the insertions and expiries that keep every invariant. -/

namespace Sys2Proof.Machine

/-! ## The order of the list -/

theorem staysAhead_iff {now : Time} {a b : Entry} : staysAhead now a b = true ↔
    dist now a.due < dist now b.due ∨ (dist now a.due = dist now b.due ∧ b.prio ≤ a.prio) := by
  simp [staysAhead]

theorem not_staysAhead_iff {now : Time} {a b : Entry} : staysAhead now a b = false ↔
    dist now b.due < dist now a.due ∨ (dist now b.due = dist now a.due ∧ a.prio < b.prio) := by
  rw [← Bool.not_eq_true, staysAhead_iff]; omega

theorem staysAhead_trans {now : Time} {a b c : Entry} (h : staysAhead now a b = true) (g : staysAhead now b c = true) :
    staysAhead now a c = true := by
  rw [staysAhead_iff] at *; omega

/-- Of two entries one stays ahead of the other. -/
theorem staysAhead_of_not {now : Time} {a b : Entry} (h : staysAhead now a b = false) : staysAhead now b a = true := by
  rw [not_staysAhead_iff] at h; rw [staysAhead_iff]; omega

theorem insertEntry_perm (now : Time) (e : Entry) (l : List Entry) : (insertEntry now e l).Perm (e :: l) := by
  induction l with
  | nil => exact .refl _
  | cons y l ih =>
    unfold insertEntry
    split
    · exact (ih.cons y).trans (.swap ..)
    · exact .refl _

/-- An insertion stands behind the entries that stay ahead of it and before the others (R16). -/
theorem insertEntry_splits (now : Time) (e : Entry) {l : List Entry}
    (hl : l.Pairwise (fun a b => staysAhead now a b = true)) : ∃ a b, l = a ++ b ∧ insertEntry now e l = a ++ e :: b ∧
      (∀ x ∈ a, staysAhead now x e = true) ∧ ∀ y ∈ b, staysAhead now y e = false := by
  induction l with
  | nil => exact ⟨[], [], rfl, rfl, by simp, by simp⟩
  | cons y l ih =>
    obtain ⟨hy, hl⟩ := List.pairwise_cons.mp hl
    unfold insertEntry
    split
    · next h =>
      obtain ⟨a, b, rfl, hins, ha, hb⟩ := ih hl
      exact ⟨y :: a, b, rfl, by rw [hins]; rfl, by simpa [h] using ha, hb⟩
    · next h =>
      refine ⟨[], y :: l, rfl, rfl, by simp, ?_⟩
      have hye : staysAhead now y e = false := by simpa using h
      intro z hz
      rcases List.mem_cons.mp hz with rfl | hz
      · exact hye
      · by_contra hze
        exact h (staysAhead_trans (hy z hz) (by simpa using hze))

theorem pairwise_insertEntry (now : Time) (e : Entry) {l : List Entry}
    (hl : l.Pairwise (fun a b => staysAhead now a b = true)) :
    (insertEntry now e l).Pairwise (fun a b => staysAhead now a b = true) := by
  obtain ⟨a, b, rfl, hins, ha, hb⟩ := insertEntry_splits now e hl
  obtain ⟨pa, pb, hab⟩ := List.pairwise_append.mp hl
  rw [hins, List.pairwise_append]
  refine ⟨pa, List.pairwise_cons.mpr ⟨fun y hy => staysAhead_of_not (hb y hy), pb⟩, fun x hx y hy => ?_⟩
  rcases List.mem_cons.mp hy with rfl | hy
  · exact ha x hx
  · exact hab x hx y hy

/-- Settles O14: the insertion splits the list at its place, and keeps its order. -/
theorem insertionKeepsListOrder : Obligations.InsertionKeepsListOrder := by
  intro now e l hl
  obtain ⟨a, b, rfl, hins, ha, hb⟩ := insertEntry_splits now e hl
  refine ⟨pairwise_insertEntry now e hl, a, b, rfl, hins, fun x hx => ?_, fun y hy => ?_⟩
  · exact staysAhead_iff.mp (ha x hx)
  · exact not_staysAhead_iff.mp (hb y hy)

/-! ## Insertions -/

/-- What an entry must be to enter the list at `now`: due now or ahead within the horizon, with its width and period in
their fields (R15, R18). -/
structure Entry.Fits (now : Time) (e : Entry) : Prop where
  near : dist now e.due ≤ 2 ^ 46
  width : ∀ p, e.phase = some p → p.width < 2 ^ 32
  period : ∀ g, e.train = some g → 1 ≤ g.period ∧ g.period < 2 ^ 32

theorem DueWf.fits {d : Device} (h : DueWf d) {e : Entry} (he : e ∈ d.calendar) : e.Fits d.tb.now := by
  obtain ⟨_, near, parts, _⟩ := h
  exact ⟨near e he, (parts e he).1, (parts e he).2⟩

/-- An insertion into part of the list: what is left of the list stays in order. -/
theorem DueWf.insert {d : Device} {rest : List Entry} {e : Entry} (h : DueWf d) (hr : rest.Sublist d.calendar)
    (he : e.Fits d.tb.now) : DueWf { d with calendar := insertEntry d.tb.now e rest } := by
  obtain ⟨order, near, parts, others⟩ := h
  have hmem : ∀ x ∈ insertEntry d.tb.now e rest, x = e ∨ x ∈ d.calendar := fun x hx =>
    ((mem_insertEntry ..).mp hx).imp id (fun hx => hr.subset hx)
  refine ⟨pairwise_insertEntry _ _ (order.sublist hr), fun x hx => ?_, fun x hx => ?_, others⟩
  · rcases hmem x hx with rfl | hx
    · exact he.near
    · exact near x hx
  · rcases hmem x hx with rfl | hx
    · exact ⟨he.width, he.period⟩
    · exact parts x hx

/-- How many entries a stream holds after an insertion (R19). -/
theorem heldCount_insert (d : Device) (e : Entry) (rest : List Entry) (n : StreamId) :
    heldCount { d with calendar := insertEntry d.tb.now e rest } n =
      (rest.filter (fun x => x.stream == n)).length + if e.stream = n then 1 else 0 := by
  unfold heldCount
  rw [((insertEntry_perm d.tb.now e rest).filter _).length_eq, List.filter_cons]
  by_cases h : e.stream = n <;> simp [h]

/-- The head is taken from the list and put back, at another time or in another phase (R17, R24). -/
theorem keeps_replaceHead {d : Device} {e e' : Entry} {rest : List Entry} (hc : d.calendar = e :: rest)
    (hs : e'.stream = e.stream) (hf : DueWf d → e'.Fits d.tb.now) :
    Keeps d { d with calendar := insertEntry d.tb.now e' rest } where
  up := id
  holding := id
  reads := id
  timebase := id
  lines := id
  waits := id
  event := id
  queues := id
  calendar w := by
    have hlen : (insertEntry d.tb.now e' rest).length = d.calendar.length := by rw [length_insertEntry, hc]; rfl
    exact hlen.trans_le w
  quota w n := by
    have hheld : heldCount { d with calendar := insertEntry d.tb.now e' rest } n = heldCount d n := by
      rw [heldCount_insert, hs, heldCount, hc, List.filter_cons]
      by_cases h : e.stream = n <;> simp [h]
    rw [hheld]
    exact w n
  due w := w.insert (by rw [hc]; exact List.sublist_cons_self ..) (hf w)

/-- The dispatcher's grant in the words of the claims (R22). -/
theorem entryGranted_iff {d : Device} {n : StreamId} : entryGranted d n = true ↔ MayTakeEntry d n := by
  rw [entryGranted, Bool.and_eq_true, decide_eq_true_iff, decide_eq_true_iff, freeCount, Config.calendarPlaces,
    Nat.sub_pos_iff_lt]
  rfl

/-- A stream that is neither IDLE nor STOPPING and has been granted an entry inserts one (R19, R22), after what has kept
every invariant so far. -/
theorem Keeps.insertNew {d₀ d : Device} {e : Entry} (h : Keeps d₀ d) (hg : entryGranted d e.stream = true)
    (hi : (d.stream e.stream).state ≠ .idle) (hs : (d.stream e.stream).state ≠ .stopping)
    (hf : DueWf d₀ → e.Fits d.tb.now) : Keeps d₀ (insertNew e d) := by
  obtain ⟨hquota, hfree⟩ := entryGranted_iff.mp hg
  have hins : Keeps d₀ { d with calendar := insertEntry d.tb.now e d.calendar } := by
    refine ⟨⟨h.holding, h.reads, h.timebase, h.lines, h.waits, h.event, h.queues, h.up⟩, fun _ => ?_, fun w n => ?_,
      fun w => (h.due w).insert (.refl _) (hf w)⟩
    · exact (length_insertEntry ..).trans_le (by omega)
    · have hheld := heldCount_insert d e d.calendar n
      rw [hheld]
      by_cases hn : e.stream = n
      · subst hn
        rw [if_pos rfl]
        exact ⟨hquota, fun h => (h.elim hi hs).elim⟩
      · rw [if_neg hn]
        exact h.quota w n
  exact hins.trans (.of_unspoken rfl)

/-- A change of a stream's context that keeps its quota leaves the dispatcher's grant as it was (R22). -/
theorem entryGranted_modStream {d : Device} {n : StreamId} {f : Stream → Stream}
    (h : (f (d.stream n)).quota = (d.stream n).quota) (m : StreamId) :
    entryGranted (d.modStream n f) m = entryGranted d m := by
  unfold entryGranted
  rw [Device.modStream_stream]
  split
  · next hm => subst hm; rw [h]; rfl
  · rfl

/-! ## Players -/

theorem keeps_freePlayer (p : PlayerId) (d : Device) : Keeps d (freePlayer p d) :=
  keeps_modPlayer fun x hx => by simp [Player.reset] at hx

@[simp] theorem endedPlayer_buffer (pl : Player) : (endedPlayer pl).buffer = [] := by
  unfold endedPlayer; split <;> rfl

theorem keeps_endPattern (p : PlayerId) (d : Device) : Keeps d (endPattern p d) :=
  keeps_modPlayer fun x hx => by simp at hx

theorem keeps_refillTest (p : PlayerId) (d : Device) : Keeps d (refillTest p d) :=
  keeps_modPlayer fun x hx => by split at hx <;> exact .inl hx

theorem keeps_failPattern (p : PlayerId) (cause : Nat) (d : Device) : Keeps d (failPattern p cause d) := by
  have hdrive : Keeps d (if (d.player p).state = .playing then applyDrive (d.player p).lines (d.player p).rest d
      else d) := .ite (fun _ => keeps_applyDrive ..) (fun _ => .refl d)
  have hpost : ∀ e, Keeps e (match (d.player p).stream with
      | some n => postPattern n (d.player p) .fetchError e.tb.now (sat32 (d.player p).applied) (BitVec.ofNat 32 cause) e
      | none => e) := by
    intro e
    split
    · exact keeps_postStream ..
    · exact .refl e
  exact (hdrive.trans (keeps_removeEntries (isEntryOfPlayer p) _)).trans ((hpost _).trans (keeps_freePlayer p _))

/-- The number that a run of bytes holds fits them. -/
theorem leNat_lt (l : List Byte) : leNat l < 256 ^ l.length := by
  induction l with
  | nil => simp [leNat]
  | cons b l ih =>
    have hb : b.toNat < 256 := b.isLt
    simp only [leNat, List.length_cons, pow_succ]
    omega

theorem bytesAt_lt (data : List Byte) (o n : Nat) : bytesAt data o n < 256 ^ n :=
  (leNat_lt _).trans_le (Nat.pow_le_pow_right (by decide) (List.length_take_le ..))

/-- The hold of a step in the table fits its field (12.5). -/
theorem hold_of_stepsOf (data : List Byte) (n : Nat) : ∀ s ∈ stepsOf data n, s.hold < 2 ^ 24 := by
  induction n generalizing data with
  | zero => simp [stepsOf]
  | succ n ih =>
    intro s hs
    rcases List.mem_cons.mp hs with rfl | hs
    · exact bytesAt_lt _ 0 3
    · exact ih _ s hs

/-- The steps of a read are appended to the buffer, and no others (R105). -/
theorem mem_appendSteps {pl : Player} {l : List RawStep} {x : Step} (h : x ∈ (appendSteps pl l).buffer) :
    x ∈ pl.buffer ∨ ∃ s ∈ l, x.hold = s.hold := by
  induction l generalizing pl with
  | nil => exact .inl h
  | cons s l ih =>
    unfold appendSteps at h
    split at h
    · have hx : x ∈ pl.buffer ++ [Step.mk s.hold s.levels true] := by
        dsimp only at h
        split at h <;> exact h
      rcases List.mem_append.mp hx with hx | hx
      · exact .inl hx
      · exact .inr ⟨s, List.mem_cons_self, by rw [List.mem_singleton.mp hx]⟩
    · rcases ih h with hx | ⟨s', hs', hx⟩
      · rcases List.mem_append.mp hx with hx | hx
        · exact .inl hx
        · exact .inr ⟨s, List.mem_cons_self, by rw [List.mem_singleton.mp hx]⟩
      · exact .inr ⟨s', List.mem_cons_of_mem _ hs', hx⟩

theorem keeps_playerReadEnd (p : PlayerId) (r : ReadEnd) (d : Device) : Keeps d (playerReadEnd p r d) := by
  have hdata : ∀ bytes n, Keeps d (if (stepsOf bytes n).all (·.ok) then
      refillTest p (d.modPlayer p (fun pl => { appendSteps pl (stepsOf bytes n) with request := .idle }))
      else failPattern p 3 d) := by
    intro bytes n
    split
    · refine Keeps.trans (keeps_modPlayer fun x hx => ?_) (keeps_refillTest p _)
      rcases mem_appendSteps hx with hx | ⟨s, hs, hx⟩
      · exact .inl hx
      · exact .inr (hx ▸ hold_of_stepsOf _ _ s hs)
    · exact keeps_failPattern ..
  unfold playerReadEnd
  dsimp only
  split
  · exact keeps_freePlayer p d
  · cases r with
    | data bytes => exact hdata bytes _
    | busError | timedOut => exact keeps_failPattern ..
  · cases r with
    | data bytes => exact hdata bytes _
    | busError | timedOut => exact keeps_failPattern ..
  · exact .refl d

end Sys2Proof.Machine
end

section
/-! SUPPORT. Captures, arm waits, expiries and time steps keep every invariant. -/

namespace Sys2Proof.Machine

/-! ## Captures and arm waits -/

theorem keeps_endCapture (l : LineId) (d : Device) : Keeps d (endCapture l d) := by
  unfold endCapture
  split
  · exact .refl d
  · have hend : Keeps d (removeEntries (isEndEntryOf l) (d.modLine l fun x => { x with capture := none })) :=
      Keeps.trans (keeps_modLine id) (keeps_removeEntries ..)
    exact .ite (fun _ => hend.trans (keeps_postStream ..)) (fun _ => hend)

theorem keeps_captureEdge (l : LineId) (rising : Bool) (time : Time) (frozen : Bool) (d : Device) :
    Keeps d (captureEdge l rising time frozen d) := by
  unfold captureEdge
  split
  · exact .refl d
  · next c hc =>
    refine .ite (fun _ => .refl d) fun _ => .ite (fun _ => keeps_modLine id) fun _ => ?_
    have hpost := (keeps_post (d.stream c.stream).target (captureEdgeCompletion l c rising time frozen d) d).trans
      (keeps_modLine (l := l) (f := fun x => { x with capture := some { c with captured := c.captured + 1, missed := 0 } })
        id)
    exact .ite (fun _ => hpost.trans (keeps_endCapture l _)) (fun _ => hpost)

theorem keeps_fireArm (h : HandedEdge) (d : Device) : Keeps d (fireArm h d) := by
  unfold fireArm
  split
  · exact .refl d
  · have hfire : Keeps d (setRunning h.stream (consume h.stream
        ((endArmWait h.stream d).modStream h.stream fun s => { s with anchor := h.time }))) :=
      ((keeps_endArmWait h.stream d).trans (keeps_modStream (.of_same rfl rfl rfl fun _ => id))).trans
        (keeps_setRunning_consume ..)
    exact .ite (fun _ => hfire.trans (keeps_post ..)) (fun _ => hfire)

theorem keeps_acceptEdge {l : LineId} {d : Device} (hm : (d.line l).mode = .input) (armsFirst : Bool) :
    Keeps d (acceptEdge l armsFirst d) := by
  have hedge : Keeps d (d.modLine l fun x => { x with filtered := !(d.line l).filtered, agree := 0, sampled := true }) :=
    keeps_modLine fun ⟨ho, _, _, hf⟩ => ⟨ho, fun h => absurd hm h, Nat.zero_le _, hf⟩
  unfold acceptEdge
  refine .ite (fun _ => ?_) (fun _ => ?_)
  · exact (hedge.trans (keeps_foldl _ _ (fun d h _ => keeps_fireArm h d) _)).trans (keeps_captureEdge ..)
  · exact (hedge.trans (keeps_captureEdge ..)).trans (.of_unspoken rfl)

theorem keeps_sampleLine (l : LineId) (level armsFirst : Bool) (d : Device) :
    Keeps d (sampleLine l level armsFirst d) := by
  rcases sampleLine_cases l level armsFirst d with ⟨_, h⟩ | ⟨hm, _, h⟩ | ⟨hm, _, ha, h⟩ | ⟨hm, _, _, h⟩ <;> rw [h]
  · exact .refl d
  · exact keeps_modLine fun ⟨ho, hi, _, hf⟩ => ⟨ho, fun h => absurd hm h, Nat.zero_le _, hf⟩
  · exact keeps_modLine fun ⟨ho, hi, _, hf⟩ => ⟨ho, fun h => absurd hm h, ha, hf⟩
  · exact keeps_acceptEdge hm armsFirst

/-- A halt is a change of its stream's context and a removal (R98, R127). -/
theorem haltStream_eq (n : StreamId) (d : Device) :
    haltStream n d = removeEntries (isDeadlineOf n) (d.modStream n Stream.afterHalt) := by
  have hhalt : ∀ x : Stream, ({ ({ x with armWait := none } : Stream) with
      state := .halted, reason := .noWait, buffer := [],
      discard := match x.request with
        | .inFlight _ => true
        | .idle | .pending => false,
      request := withdraw x.request } : Stream) = x.afterHalt := by
    intro x
    unfold Stream.afterHalt
    cases x.request <;> rfl
  have hmod := Device.modStream_modStream d n (fun x => { x with armWait := none })
    (fun x => { x with state := .halted, reason := .noWait, buffer := [],
                       discard := match x.request with
                         | .inFlight _ => true
                         | .idle | .pending => false,
                       request := withdraw x.request })
  simp only [hhalt] at hmod
  exact congrArg (removeEntries (isDeadlineOf n)) hmod

/-- What is posted and the context of a stream are changed one after the other, in either order. -/
theorem post_modStream (q : CqId) (c : Completion) (d : Device) (n : StreamId) (f : Stream → Stream) :
    (post q c d).modStream n f = post q c (d.modStream n f) := by
  by_cases h : d.holding.length < 64 ∧ (d.queue q).state = .active
  · have h' : (d.modStream n f).holding.length < 64 ∧ ((d.modStream n f).queue q).state = .active := h
    rw [post_of_taken h, post_of_taken h']; rfl
  · have h' : ¬((d.modStream n f).holding.length < 64 ∧ ((d.modStream n f).queue q).state = .active) := h
    rw [post_of_lost h, post_of_lost h']; rfl

theorem post_removeEntries (q : CqId) (c : Completion) (d : Device) (p : Entry → Bool) :
    removeEntries p (post q c d) = post q c (removeEntries p d) := by
  by_cases h : d.holding.length < 64 ∧ (d.queue q).state = .active
  · have h' : (removeEntries p d).holding.length < 64 ∧ ((removeEntries p d).queue q).state = .active := h
    rw [post_of_taken h, post_of_taken h']; rfl
  · have h' : ¬((removeEntries p d).holding.length < 64 ∧ ((removeEntries p d).queue q).state = .active) := h
    rw [post_of_lost h, post_of_lost h']; rfl

theorem post_haltStream (q : CqId) (c : Completion) (d : Device) (n : StreamId) :
    haltStream n (post q c d) = post q c (haltStream n d) := by
  rw [haltStream_eq, haltStream_eq, post_modStream, post_removeEntries]

/-- A stream consumes its record and halts, whatever it waited for (R96). -/
theorem keeps_haltStream_consume (n : StreamId) (d : Device) : Keeps d (haltStream n (consume n d)) := by
  have hmod : Keeps d (d.modStream n fun x => (x.consumed d.threshold).afterHalt) :=
    keeps_modStream (.of_active (.inr rfl) rfl (Stream.consumed_quota ..))
  rw [haltStream_eq, consume_eq_modStream, Device.modStream_modStream]
  exact hmod.trans (keeps_removeEntries ..)

/-- A stream consumes its record, with a completion, and goes on from a new anchor (R96). -/
theorem keeps_setRunning_post_consume (n : StreamId) (q : CqId) (c : Completion) (t : Time) (d : Device) :
    Keeps d (setRunning n ((post q c (consume n d)).modStream n fun s => { s with anchor := t })) := by
  have hmod : Keeps d (d.modStream n fun x =>
      { x.consumed d.threshold with anchor := t, state := .running, reason := .noWait }) :=
    keeps_modStream (.of_active (.inl rfl) rfl (Stream.consumed_quota ..))
  rw [setRunning, post_modStream, post_modStream, Device.modStream_modStream, consume_eq_modStream,
    Device.modStream_modStream]
  exact hmod.trans (keeps_post ..)

theorem keeps_timeoutArm (n : StreamId) (d : Device) : Keeps d (timeoutArm n d) := by
  unfold timeoutArm
  split
  · exact .refl d
  · next w hw =>
    have hend : Keeps d (d.modStream n fun s => { s with armWait := none }) :=
      keeps_modStream (.of_same rfl rfl rfl fun _ => id)
    refine .ite (fun _ => ?_) (fun _ => ?_)
    · rw [postStream, post_haltStream]
      exact (hend.trans (keeps_haltStream_consume n _)).trans (keeps_post ..)
    · exact hend.trans (keeps_setRunning_post_consume n _ _ _ _)

/-! ## Distances ahead of now -/

theorem dist_self (now : Time) : dist now now = 0 := dist_eq_zero_iff.mpr rfl

theorem dist_add (now t : Time) (k : Nat) : dist now (t + BitVec.ofNat 48 k) = (dist now t + k) % 2 ^ 48 := by
  have h : t + BitVec.ofNat 48 k - now = t - now + BitVec.ofNat 48 k := by
    rw [BitVec.sub_eq_add_neg, BitVec.sub_eq_add_neg, BitVec.add_assoc, BitVec.add_comm (BitVec.ofNat 48 k),
      ← BitVec.add_assoc]
  simp only [Machine.dist, h, BitVec.toNat_add, BitVec.toNat_ofNat]
  omega

theorem dist_now_add (now : Time) (k : Nat) : dist now (now + BitVec.ofNat 48 k) = k % 2 ^ 48 := by
  rw [dist_add, dist_self, Nat.zero_add]

/-- The next grid point of a train that goes on is now or less than 2^32 ticks ahead (R18, R29, R37). -/
theorem dist_gridPoint_passGrid {now : Time} {g : TrainPart} (h1 : 1 ≤ g.period) (h2 : g.period < 2 ^ 32)
    (hx : gridExhausted now g = false) : dist now (gridPoint (passGrid now g)) < 2 ^ 32 := by
  have hpoint : gridPoint (passGrid now g) = gridPoint g + BitVec.ofNat 48 (gridPointsBehind now g * g.period) := by
    have hm : (passGrid now g).missed = g.missed + gridPointsBehind now g := by
      unfold passGrid
      split
      · rfl
      · next hr =>
        have hlt : ¬ g.remaining ≤ gridPointsBehind now g := by simpa [gridExhausted, hr] using hx
        simp only [Nat.min_eq_left (Nat.le_of_not_le hlt)]
    have ho : (passGrid now g).origin = g.origin ∧ (passGrid now g).driven = g.driven ∧
        (passGrid now g).period = g.period := by unfold passGrid; split <;> exact ⟨rfl, rfl, rfl⟩
    obtain ⟨horigin, hdriven, hperiod⟩ := ho
    simp only [gridPoint, hm, horigin, hdriven, hperiod]
    rw [BitVec.add_assoc, ← BitVec.ofNat_add, ← Nat.add_assoc, ← Nat.add_mul]
  rw [hpoint, dist_add]
  have hlt := dist_lt now (gridPoint g)
  unfold gridPointsBehind Config.reinsertionReach Config.timeModulus
  dsimp only
  split
  · omega
  · have hdiv := Nat.div_add_mod (281474976710656 - dist now (gridPoint g) + g.period - 1) g.period
    have hmod := Nat.mod_lt (281474976710656 - dist now (gridPoint g) + g.period - 1) h1
    rw [Nat.mul_comm] at hdiv
    omega

theorem passGrid_period (now : Time) (g : TrainPart) : (passGrid now g).period = g.period := by
  unfold passGrid; split <;> rfl

/-! ## Expiries -/

theorem keeps_postFinal (e : Entry) (normal : Status) (owed : Bool) (x1 x2 : W32) (d : Device) :
    Keeps d (postFinal e normal owed x1 x2 d) :=
  .ite (fun _ => keeps_postStream ..) (fun _ => .ite (fun _ => keeps_postStream ..) (fun _ => .refl d))

theorem keeps_finishTrain (e : Entry) (t : TrainPart) (d : Device) : Keeps d (finishTrain e t d) :=
  (keeps_postFinal ..).trans (keeps_freed ..)

/-- The head leaves the list. -/
theorem keeps_dropHead {d : Device} {e : Entry} {rest : List Entry} (hc : d.calendar = e :: rest) :
    Keeps d { d with calendar := rest } := keeps_sublist rfl (by rw [hc]; exact List.sublist_cons_self ..)

section
variable {d : Device} {e : Entry} {rest : List Entry} (hc : d.calendar = e :: rest)
include hc

/-- The entry at the head fits when the calendar is in order. -/
theorem headFits (w : DueWf d) : e.Fits d.tb.now := w.fits (by rw [hc]; exact List.mem_cons_self)

theorem keeps_expirePulse {ph : PhasePart} (hp : e.phase = some ph) :
    Keeps d (expirePulse e ph { d with calendar := rest }) := by
  unfold expirePulse
  cases ph.phase with
  | start =>
    have hins := keeps_replaceHead (e' := { e with
      due := d.tb.now + BitVec.ofNat 48 ph.width, phase := some { ph with phase := .ending } }) hc rfl fun w => by
        have hw := (headFits hc w).width ph hp
        refine ⟨by rw [dist_now_add]; omega, fun p h => ?_, (headFits hc w).period⟩
        cases h; exact hw
    exact hins.trans (keeps_stageDrive e.lines e.levels _)
  | ending =>
    exact ((keeps_dropHead hc).trans (keeps_stageDrive ..)).trans ((keeps_postFinal ..).trans (keeps_freed ..))

theorem keeps_expireTrain {ph : PhasePart} {t : TrainPart} (hp : e.phase = some ph) (ht : e.train = some t) :
    Keeps d (expireTrain e ph t { d with calendar := rest }) := by
  unfold expireTrain
  cases ph.phase with
  | start =>
    have hins := keeps_replaceHead (e' := { e with
      due := d.tb.now + BitVec.ofNat 48 ph.width, phase := some { ph with phase := .ending },
      train := some { t with driven := t.driven + 1 } }) hc rfl fun w => by
        have hw := (headFits hc w).width ph hp
        refine ⟨by rw [dist_now_add]; omega, fun p h => ?_, fun g h => ?_⟩
        · cases h; exact hw
        · cases h; exact (headFits hc w).period t ht
    exact hins.trans (keeps_stageDrive e.lines e.levels _)
  | ending =>
    have hdrop := (keeps_dropHead hc).trans (keeps_stageDrive e.lines (~~~e.levels) _)
    refine .ite (fun _ => hdrop.trans (keeps_finishTrain ..)) (fun _ => .ite (fun _ => hdrop.trans (keeps_finishTrain ..))
      fun hx => ?_)
    have hins := keeps_replaceHead (e' := { e with
        due := gridPoint (passGrid d.tb.now { t with remaining := t.remaining - 1 }),
        phase := some { ph with phase := .start },
        train := some (passGrid d.tb.now { t with remaining := t.remaining - 1 }) }) hc rfl fun w => by
      obtain ⟨h1, h2⟩ := (headFits hc w).period t ht
      refine ⟨Nat.le_of_lt (lt_of_lt_of_le (dist_gridPoint_passGrid h1 h2 (Bool.eq_false_of_not_eq_true hx)) (by decide)),
        fun p h => ?_, fun g h => ?_⟩
      · cases h; exact (headFits hc w).width ph hp
      · cases h; rw [passGrid_period]; exact ⟨h1, h2⟩
    exact hins.trans (keeps_stageDrive e.lines (~~~e.levels) _)

theorem keeps_expirePattern (p : PlayerId) : Keeps d (expirePattern e p { d with calendar := rest }) := by
  have hdrop := (keeps_dropHead hc).trans (keeps_stageDrive (d.player p).lines (d.player p).rest _)
  unfold expirePattern
  refine .ite (fun _ => ?_) (fun _ => ?_)
  · refine hdrop.trans (Keeps.trans ?_ ((keeps_freePlayer p _).trans (keeps_freed ..)))
    exact .ite (fun _ => keeps_postStream ..) (fun _ => .ite (fun _ => keeps_postStream ..) (fun _ => .refl _))
  · split
    · exact hdrop.trans ((keeps_postStream ..).trans ((keeps_endPattern p _).trans (keeps_freed ..)))
    · next s more hb =>
      replace hb : (d.player p).buffer = s :: more := hb
      have hins := keeps_replaceHead (e' := { e with due := d.tb.now + BitVec.ofNat 48 s.hold }) hc rfl fun w => by
        have hhold : s.hold < 2 ^ 24 := by
          obtain ⟨_, _, _, holds, _⟩ := w
          exact holds p s (by rw [hb]; exact List.mem_cons_self)
        exact ⟨by rw [dist_now_add]; omega, (headFits hc w).width, (headFits hc w).period⟩
      refine (hins.trans ((keeps_stageDrive (d.player p).lines (spreadLevels (d.player p).lines s.levels) _).trans
        (keeps_modPlayer (p := p) (f := fun pl => { pl with
          buffer := more, applied := pl.applied + 1, state := .playing,
          completed := if s.last then (d.player p).completed + 1 else (d.player p).completed,
          nextEnd := s.last && (if s.last then (d.player p).completed + 1 else (d.player p).completed) == pl.repeats })
          fun x hx => .inl ?_))).trans (keeps_refillTest p _)
      show x ∈ (d.player p).buffer
      rw [hb]; exact List.mem_cons_of_mem _ hx

theorem keeps_expireEntry : Keeps d (expireEntry e { d with calendar := rest }) := by
  have hdrop := keeps_dropHead hc
  unfold expireEntry
  split
  · exact hdrop.trans ((keeps_stageDrive ..).trans ((keeps_postFinal ..).trans (keeps_freed ..)))
  · split
    · exact keeps_expirePulse hc ‹_›
    · exact hdrop.trans (keeps_freed ..)
  · split
    · exact keeps_expireTrain hc ‹_› ‹_›
    · exact hdrop.trans (keeps_freed ..)
  · exact hdrop.trans ((keeps_postFinal ..).trans (keeps_freed ..))
  · split
    · exact keeps_expirePattern hc _
    · exact hdrop.trans (keeps_freed ..)
  · unfold expireCaptureEnd
    split
    · exact hdrop.trans ((keeps_endCapture ..).trans (keeps_freed ..))
    · exact hdrop.trans (keeps_freed ..)
    · exact hdrop.trans (keeps_freed ..)
  · exact hdrop.trans ((keeps_timeoutArm ..).trans (keeps_freed ..))

end

theorem keeps_instantOpen (b : Bool) (d : Device) : Keeps d { d with instantOpen := b } := .of_unspoken rfl

theorem keeps_continueInstant (d : Device) : Keeps d (continueInstant d) :=
  .ite (fun _ => keeps_instantOpen true d) (fun _ => (keeps_flushDrives d).trans (keeps_instantOpen false _))

theorem keeps_expireHead (d : Device) : Keeps d (expireHead d) := by
  unfold expireHead
  split
  · exact keeps_continueInstant d
  · next e rest hc =>
    exact .ite (fun _ => (keeps_expireEntry hc).trans (keeps_continueInstant _)) (fun _ => keeps_continueInstant d)

end Sys2Proof.Machine
end

section
/-! SUPPORT. Steps of device time keep every invariant: a forward step resolves the entries it passes over one after
another, each of which leaves the list or is put back fitting the new device time (R34 to R39). -/

namespace Sys2Proof.Machine

/-! ## Device time moves under the calendar -/

/-- Device time moves, and every entry that stays in the list is nearer or farther by one amount (R18). -/
theorem DueWf.shift {d : Device} (w : DueWf d) {l : List Entry} {now : Time} (c : Int) (hl : l.Sublist d.calendar)
    (hc : ∀ e ∈ l, (dist now e.due : Int) = dist d.tb.now e.due + c) (hn : ∀ e ∈ l, dist now e.due ≤ 2 ^ 46) :
    DueWf { d with calendar := l, tb := { d.tb with now := now } } := by
  obtain ⟨order, near, parts, others⟩ := w
  refine ⟨?_, hn, fun e he => parts e (hl.subset he), others⟩
  refine (order.sublist hl).imp_of_mem fun ha hb hab => ?_
  have := hc _ ha
  have := hc _ hb
  rw [staysAhead_iff] at *
  dsimp only
  omega

/-- A move of device time touches no other block's invariant. -/
theorem keepsBlocks_moved (d : Device) (l : List Entry) (now : Time) :
    KeepsBlocks d { d with calendar := l, tb := { d.tb with now := now } } := ⟨id, id, id, id, id, id, id, id⟩

/-- Device time moves, and the list keeps its entries. -/
theorem keeps_move {d : Device} {now : Time} (h : DueWf d → DueWf { d with tb := { d.tb with now := now } }) :
    Keeps d { d with tb := { d.tb with now := now } } := ⟨keepsBlocks_moved d d.calendar now, id, id, h⟩

theorem dist_add_now (now t : Time) (k : Nat) :
    dist (now + BitVec.ofNat 48 k) t = (dist now t + 2 ^ 48 - k % 2 ^ 48) % 2 ^ 48 := by
  have h : t - (now + BitVec.ofNat 48 k) = t - now - BitVec.ofNat 48 k := by
    rw [BitVec.sub_eq_add_neg, BitVec.sub_eq_add_neg, BitVec.sub_eq_add_neg, BitVec.neg_add, BitVec.sub_eq_add_neg,
      BitVec.add_assoc]
  simp only [Machine.dist, h, BitVec.toNat_sub, BitVec.toNat_ofNat]
  omega

/-- An entry that is `k` ticks ahead or more is nearer by `k` after `k` ticks. -/
theorem dist_add_now_of_le {now t : Time} {k : Nat} (h : k ≤ dist now t) :
    dist (now + BitVec.ofNat 48 k) t = dist now t - k := by
  have := dist_lt now t
  rw [dist_add_now]
  omega

/-- The entries of a list in order whose head is not due now are all ahead (R16). -/
theorem dist_pos_of_head {now : Time} {e : Entry} {l : List Entry}
    (order : (e :: l).Pairwise (fun a b => staysAhead now a b = true)) (h : e.due ≠ now) :
    ∀ x ∈ e :: l, 1 ≤ dist now x.due := by
  have he : 1 ≤ dist now e.due := Nat.one_le_iff_ne_zero.mpr fun h0 => h (dist_eq_zero_iff.mp h0)
  intro x hx
  rcases List.mem_cons.mp hx with rfl | hx
  · exact he
  · have hex := staysAhead_iff.mp ((List.pairwise_cons.mp order).1 x hx)
    omega

/-- What `dueNow` says of a RUNNING timebase (R24). -/
theorem dueNow_eq_false_iff {d : Device} (hrun : d.tb.mode = .running) :
    dueNow d = false ↔ ∀ y, d.calendar.head? = some y → y.due ≠ d.tb.now := by
  unfold dueNow Device.isRunning
  cases d.calendar <;> simp [hrun]

/-- A tick moves device time only when no entry is due now (R1, R18). -/
theorem keeps_advanceTime {d : Device} (hrun : d.tb.mode = .running) : Keeps d (advanceTime d) := by
  unfold advanceTime
  refine .ite (fun _ => .refl d) fun hdue => ?_
  replace hdue := (dueNow_eq_false_iff hrun).mp (Bool.eq_false_of_not_eq_true hdue)
  have hmove : Keeps d { d with tb := { d.tb with now := d.tb.now + 1 } } := keeps_move fun w => by
    have ahead : ∀ e ∈ d.calendar, 1 ≤ dist d.tb.now e.due := by
      obtain ⟨order, _⟩ := w
      cases hc : d.calendar with
      | nil => simp
      | cons e l => exact dist_pos_of_head (hc ▸ order) (hdue e (by rw [hc]; rfl))
    have nearer : ∀ e ∈ d.calendar, dist (d.tb.now + 1) e.due = dist d.tb.now e.due - 1 := fun e he =>
      dist_add_now_of_le (ahead e he)
    refine w.shift (-1) (.refl _) (fun e he => ?_) (fun e he => ?_)
    · have := ahead e he; have := nearer e he; omega
    · have := (w.fits he).near; have := nearer e he; omega
  refine hmove.trans (keeps_modTb (d := { d with tb := { d.tb with now := d.tb.now + 1 } })
    (f := fun t => { t with divider := 0 }) rfl ?_)
  rintro ⟨h1, h2, h3, _, hrest⟩
  exact ⟨h1, h2, h1, fun _ => rfl, hrest⟩

/-! ## One entry resolved -/

/-- What a forward step makes of one entry taken from the list: it leaves the list, or it is put back fitting the device
time. -/
structure Resolves (e : Entry) (d d' : Device) : Prop where
  blocks : KeepsBlocks d d'
  now : d'.tb.now = d.tb.now
  streams : d'.streams = d.streams
  buffers : ∀ q, (d'.player q).buffer ⊆ (d.player q).buffer
  calendar : d'.calendar = d.calendar ∨ ∃ e', e'.stream = e.stream ∧ d'.calendar = insertEntry d.tb.now e' d.calendar ∧
    ((∀ p, e.phase = some p → p.width < 2 ^ 32) ∧ (∀ g, e.train = some g → 1 ≤ g.period ∧ g.period < 2 ^ 32) →
      e'.Fits d.tb.now)

/-- `d'` is `d` but for its reports, lines, players, holding buffer and queues. -/
def LeavesList (d d' : Device) : Prop :=
  d' = { d with reports := d'.reports, lines := d'.lines, players := d'.players, holding := d'.holding,
                queues := d'.queues }

theorem LeavesList.trans {a b c : Device} (h : LeavesList a b) (g : LeavesList b c) : LeavesList a c := by
  unfold LeavesList at *
  exact g.trans (by rw [h])

theorem leavesList_post (q : CqId) (c : Completion) (d : Device) : LeavesList d (post q c d) := by
  unfold LeavesList; rw [post_frame]

theorem leavesList_freed (e : Entry) (d : Device) : LeavesList d (freed e d) := rfl

theorem leavesList_endPattern (q : PlayerId) (d : Device) : LeavesList d (endPattern q d) := rfl

theorem leavesList_applyDrive (m levels : Mask) (d : Device) : LeavesList d (applyDrive m levels d) := by
  unfold LeavesList applyDrive Device.mapLines; rfl

@[simp] theorem applyDrive_player (m levels : Mask) (d : Device) (q : PlayerId) :
    (applyDrive m levels d).player q = d.player q := Device.mapLines_player ..

theorem leavesList_postFinal (e : Entry) (normal : Status) (owed : Bool) (x1 x2 : W32) (d : Device) :
    LeavesList d (postFinal e normal owed x1 x2 d) := by
  unfold postFinal
  split
  · exact leavesList_post ..
  · split
    · exact leavesList_post ..
    · rfl

@[simp] theorem postFinal_player (e : Entry) (normal : Status) (owed : Bool) (x1 x2 : W32) (d : Device) (q : PlayerId) :
    (postFinal e normal owed x1 x2 d).player q = d.player q := by
  unfold postFinal
  split
  · exact post_player ..
  · split
    · exact post_player ..
    · rfl

/-- An entry that leaves the list resolves. -/
theorem Resolves.of_leavesList {e : Entry} {d d' : Device} (hk : Keeps d d') (h : LeavesList d d')
    (hb : ∀ q, (d'.player q).buffer ⊆ (d.player q).buffer) : Resolves e d d' := by
  refine ⟨hk.toKeepsBlocks, ?_, ?_, hb, .inl ?_⟩ <;> rw [h]

/-- An entry that is put back resolves. -/
theorem resolves_reinsert {e e' : Entry} {d : Device} (hs : e'.stream = e.stream)
    (hf : (∀ p, e.phase = some p → p.width < 2 ^ 32) ∧
      (∀ g, e.train = some g → 1 ≤ g.period ∧ g.period < 2 ^ 32) → e'.Fits d.tb.now) : Resolves e d (reinsert e' d) :=
  ⟨⟨id, id, id, id, id, id, id, id⟩, rfl, rfl, fun _ => List.Subset.refl _, .inr ⟨e', hs, rfl, hf⟩⟩

theorem resolves_retime {e : Entry} (x : Resolution) (mark : Bool) :
    Resolves e x.dev (x.retime { e with lateMark := mark }).dev :=
  resolves_reinsert (e' := { e with lateMark := mark, due := x.dev.tb.now }) rfl fun ⟨hw, hp⟩ =>
    ⟨by rw [dist_self]; exact Nat.zero_le _, hw, hp⟩

theorem endPattern_buffer_subset (q k : PlayerId) (d : Device) :
    ((endPattern q d).player k).buffer ⊆ (d.player k).buffer := by
  unfold endPattern
  rw [Device.modPlayer_player]
  split
  · simp
  · exact List.Subset.refl _

theorem resolves_point {e : Entry} (x : Resolution) (p : Nat) {onSkip : Device → Device}
    (hk : ∀ d, Keeps d (onSkip d)) (hl : ∀ d, LeavesList d (onSkip d))
    (hb : ∀ d q, ((onSkip d).player q).buffer ⊆ (d.player q).buffer) : Resolves e x.dev (x.point e p onSkip).dev := by
  unfold Resolution.point
  split
  · exact resolves_retime x _
  · next p' _ =>
    refine .of_leavesList ((keeps_postStream ..).trans ((hk _).trans (keeps_freed e _)))
      ((leavesList_post ..).trans ((hl _).trans (leavesList_freed e _))) fun q => ?_
    exact List.Subset.trans (hb _ q) (by rw [postStepSkipped, postStream, post_player]; exact List.Subset.refl _)

theorem resolves_point_id {e : Entry} (x : Resolution) (p : Nat) : Resolves e x.dev (x.point e p id).dev :=
  resolves_point x p .refl (fun _ => rfl) fun _ _ => List.Subset.refl _

theorem resolves_train {e : Entry} (x : Resolution) {ph : PhasePart} {t : TrainPart} (hp : e.phase = some ph)
    (ht : e.train = some t) : Resolves e x.dev (x.train e ph t).dev := by
  unfold Resolution.train
  split
  · exact resolves_retime x e.lateMark
  · show Resolves e x.dev (resumeTrain e ph t x.dev)
    unfold resumeTrain
    dsimp only
    split
    · refine .of_leavesList (keeps_finishTrain ..) ((leavesList_postFinal ..).trans (leavesList_freed e _)) fun q => ?_
      show ((postFinal ..).player q).buffer ⊆ _
      rw [postFinal_player]
      exact List.Subset.refl _
    · next hx =>
      refine resolves_reinsert rfl fun ⟨hw, hg⟩ => ?_
      obtain ⟨h1, h2⟩ := hg t ht
      refine ⟨Nat.le_of_lt (lt_of_lt_of_le (dist_gridPoint_passGrid h1 h2 (Bool.eq_false_of_not_eq_true hx)) (by decide)),
        fun p h => ?_, fun g h => ?_⟩
      · cases h; exact hw ph hp
      · cases h; rw [passGrid_period]; exact ⟨h1, h2⟩

theorem resolves_pattern {e : Entry} (x : Resolution) (p : Nat) (q : PlayerId) :
    Resolves e x.dev (x.pattern e p q).dev := by
  unfold Resolution.pattern
  dsimp only
  split
  · exact resolves_point x p (keeps_endPattern q) (leavesList_endPattern q) fun d k => endPattern_buffer_subset q k d
  · refine .of_leavesList
      ((keeps_applyDrive ..).trans ((keeps_postStream ..).trans ((keeps_endPattern q _).trans (keeps_freed e _))))
      ((leavesList_applyDrive ..).trans ((leavesList_post ..).trans
        ((leavesList_endPattern q _).trans (leavesList_freed e _)))) fun k => ?_
    refine List.Subset.trans (endPattern_buffer_subset q k _) ?_
    rw [postPattern, postStream, post_player, applyDrive_player]
    exact List.Subset.refl _

/-- Every entry that a forward step passes over resolves (the table of R35). -/
theorem resolves_entry (x : Resolution) (e : Entry) (p : Nat) : Resolves e x.dev (x.entry e p).dev := by
  have hretime : Resolves e x.dev (x.retime e).dev := resolves_retime x e.lateMark
  unfold Resolution.entry
  split
  · exact resolves_point_id x p
  · exact resolves_point_id x p
  · split
    · split
      · exact resolves_point_id x p
      · exact hretime
    · exact hretime
  · split
    · exact resolves_train x ‹_› ‹_›
    · exact hretime
  · split
    · exact resolves_pattern x p _
    · exact hretime
  · exact hretime
  · exact hretime

/-! ## The whole step -/

/-- What the resolution of the entries of `l` keeps: the list has grown by no more than them. -/
structure ResolvesAll (l : List Entry) (d d' : Device) : Prop where
  blocks : KeepsBlocks d d'
  streams : d'.streams = d.streams
  length : d'.calendar.length ≤ d.calendar.length + l.length
  held : ∀ n, heldCount d' n ≤ heldCount d n + (l.filter (fun e => e.stream == n)).length
  due : (∀ e ∈ l, (∀ p, e.phase = some p → p.width < 2 ^ 32) ∧
    (∀ g, e.train = some g → 1 ≤ g.period ∧ g.period < 2 ^ 32)) → DueWf d → DueWf d'

theorem ResolvesAll.nil (d : Device) : ResolvesAll [] d d :=
  ⟨.refl d, rfl, Nat.le_refl _, fun _ => Nat.le_refl _, fun _ => id⟩

/-- A part whose buffers have lost steps and whose list has an entry more that fits. -/
theorem Resolves.dueWf {e : Entry} {d d' : Device} (h : Resolves e d d')
    (hp : (∀ p, e.phase = some p → p.width < 2 ^ 32) ∧ (∀ g, e.train = some g → 1 ≤ g.period ∧ g.period < 2 ^ 32))
    (w : DueWf d) : DueWf d' := by
  obtain ⟨-, hnow, hstreams, hbuffers, hcal⟩ := h
  have hlist : DueWf { d with calendar := d'.calendar } := by
    rcases hcal with hc | ⟨e', _, hc, hfit⟩
    · rw [hc]; exact w
    · rw [hc]; exact w.insert (.refl _) (hfit hp)
  obtain ⟨order, near, parts, holds, resumable⟩ := hlist
  refine ⟨hnow ▸ order, hnow ▸ near, parts, fun q x hx => holds q x (hbuffers q hx), ?_⟩
  simp only [Device.stream, hstreams]
  exact resumable

theorem ResolvesAll.cons {e : Entry} {l : List Entry} {a b c : Device} (h : Resolves e a b) (g : ResolvesAll l b c) :
    ResolvesAll (e :: l) a c where
  blocks := h.blocks.trans g.blocks
  streams := g.streams.trans h.streams
  length := by
    have hb : b.calendar.length ≤ a.calendar.length + 1 := by
      rcases h.calendar with hc | ⟨e', _, hc, _⟩
      · rw [hc]; exact Nat.le_succ _
      · rw [hc, length_insertEntry]
    have := g.length
    simp only [List.length_cons]
    omega
  held n := by
    have hb : heldCount b n ≤ heldCount a n + if e.stream = n then 1 else 0 := by
      rcases h.calendar with hc | ⟨e', hs, hc, _⟩
      · simp only [heldCount, hc]; exact Nat.le_add_right ..
      · have hi := heldCount_insert a e' a.calendar n
        simp only [heldCount, hc] at hi ⊢
        rw [hi, hs]
    have := g.held n
    rw [List.filter_cons]
    by_cases hn : e.stream = n <;> simp [hn] at hb ⊢ <;> omega
  due hl w := g.due (fun x hx => hl x (List.mem_cons_of_mem _ hx)) (h.dueWf (hl e List.mem_cons_self) w)

theorem resolvesAll_foldl (lateness : Entry → Nat) (l : List Entry) (x : Resolution) :
    ResolvesAll l x.dev (l.foldl (fun x e => x.entry e (lateness e)) x).dev := by
  induction l generalizing x with
  | nil => exact .nil _
  | cons e l ih => exact .cons (resolves_entry x e _) (ih _)

theorem length_filter_add_not {α : Type} (p : α → Bool) (l : List α) :
    (l.filter (fun a => !p a)).length + (l.filter p).length = l.length := by
  induction l with
  | nil => rfl
  | cons a l ih => by_cases h : p a <;> simp [h] <;> omega

theorem keeps_stepForward (k : Nat) (d : Device) : Keeps d (stepForward k d).dev := by
  have hall : ResolvesAll (d.calendar.filter (fun e => decide (dist d.tb.now e.due < k)))
      { d with calendar := d.calendar.filter (fun e => !decide (dist d.tb.now e.due < k)),
               tb := { d.tb with now := d.tb.now + BitVec.ofNat 48 k } } (stepForward k d).dev :=
    resolvesAll_foldl (fun e => k - dist d.tb.now e.due) _ { dev := _, late := 0, skipped := 0 }
  refine ⟨(keepsBlocks_moved ..).trans hall.blocks, fun w => ?_, fun w n => ?_, fun w => ?_⟩
  · refine (hall.length.trans ?_ : _ ≤ d.calendar.length).trans w
    exact (length_filter_add_not _ _).le
  · have hle : heldCount (stepForward k d).dev n ≤ heldCount d n := (hall.held n).trans (by
      simp only [heldCount, List.filter_filter, Bool.and_comm (_ == n)]
      rw [← List.filter_filter, ← List.filter_filter]
      exact (length_filter_add_not _ _).le)
    have hstream : (stepForward k d).dev.stream n = d.stream n := congrArg (·.get n) hall.streams
    obtain ⟨hquota, hnone⟩ := w n
    rw [hstream]
    exact ⟨hle.trans hquota, fun h => Nat.le_zero.mp (hnone h ▸ hle)⟩
  · have nearer : ∀ e ∈ d.calendar.filter (fun e => !decide (dist d.tb.now e.due < k)),
        dist (d.tb.now + BitVec.ofNat 48 k) e.due = dist d.tb.now e.due - k ∧ k ≤ dist d.tb.now e.due := by
      intro e he
      have hk : k ≤ dist d.tb.now e.due := by simpa using (List.mem_filter.mp he).2
      exact ⟨dist_add_now_of_le hk, hk⟩
    refine hall.due (fun e he => ?_) (w.shift (-k) List.filter_sublist (fun e he => ?_) (fun e he => ?_))
    · have hfit := w.fits (List.mem_of_mem_filter he)
      exact ⟨hfit.width, hfit.period⟩
    · have := nearer e he; omega
    · have := nearer e he; have := (w.fits (List.mem_of_mem_filter he)).near; omega

/-- A backward step makes every entry farther by its ticks. -/
theorem dist_sub_now {now t : Time} {k : Nat} (h : dist now t + k < 2 ^ 48) :
    dist (now - BitVec.ofNat 48 k) t = dist now t + k := by
  have hadd := dist_add_now (now - BitVec.ofNat 48 k) t k
  rw [BitVec.sub_add_cancel] at hadd
  have := dist_lt (now - BitVec.ofNat 48 k) t
  have := dist_lt now t
  omega

theorem keeps_stepBackward {k : Nat} {d : Device}
    (h : ∀ e ∈ d.calendar, dist d.tb.now e.due + k ≤ Config.horizon) : Keeps d (stepBackward k d).dev := by
  unfold Config.horizon at h
  refine keeps_move fun w => w.shift k (.refl _) (fun e he => ?_) (fun e he => ?_)
  · have := h e he; rw [dist_sub_now (by omega)]; omega
  · have := h e he; rw [dist_sub_now (by omega)]; omega

/-- A step that passes its check keeps every invariant (R12, R34). -/
theorem keeps_stepTime {delta : Int} {d : Device} (h : stepAllowed delta d = true) :
    Keeps d (stepTime delta d).dev := by
  unfold stepTime
  split
  · exact keeps_stepForward ..
  · next hneg =>
    refine keeps_stepBackward fun e he => ?_
    simp only [stepAllowed, decide_eq_false hneg, Bool.false_or, List.all_eq_true, decide_eq_true_eq] at h
    exact h e he

end Sys2Proof.Machine
end

section
/-! SUPPORT. The events of the streams and the admissions keep every invariant. -/

namespace Sys2Proof.Machine

/-! ## Barriers, STOP, START and the ring -/

theorem keeps_passWait (n : StreamId) (d : Device) : Keeps d (passWait n d) :=
  (keeps_setRunning_consume n d).trans (keeps_postNotified ..)

theorem keeps_completeRelease (n : StreamId) (d : Device) : Keeps d (completeRelease n d) := by
  refine Keeps.trans (keeps_mapLines fun l x hx => ?_) ((keeps_setRunning_consume n _).trans (keeps_postNotified ..))
  split <;> exact hx

theorem keeps_testReport (x : Report) (d : Device) : Keeps d (testReport x d) := by
  rcases testReport_cases x d with ⟨_, h⟩ | ⟨_, _, h⟩ | ⟨_, _, h⟩ <;> rw [h]
  · exact keeps_passWait ..
  · exact keeps_completeRelease ..
  · exact .refl d

theorem keeps_reports (l : List Report) (d : Device) : Keeps d { d with reports := l } := .of_unspoken rfl

theorem keeps_endWait (n : StreamId) (w : WaitReason) (d : Device) : Keeps d (endWait n w d) := by
  refine .ite (fun _ => ?_) fun _ => .refl d
  exact testReports_keeps _ (fun x rest e h => (h.trans (keeps_reports rest e)).trans (keeps_testReport ..)) _ d (.refl d)

theorem keeps_becomeIdle {n : StreamId} {d : Device} (h : (d.stream n).state = .stopping) : Keeps d (becomeIdle n d) := by
  have hidle : ∀ e : Device, (e.stream n).state = .stopping → Keeps e (e.modStream n fun s =>
      { s with state := .idle, reason := .noWait, head := 0, tail := 0, buffer := [], stopCount := 0, stopLines := 0 }) :=
    fun e he => keeps_modStream ⟨fun _ => by simp, fun w => ⟨w.1, fun _ => w.2 (.inr he)⟩, fun _ hw => absurd hw (by simp)⟩
  exact (keeps_postStream ..).trans (hidle _ (by rw [postStream, post_stream]; exact h))

/-- What no step of a fold changes, the fold does not change. -/
theorem foldl_fixes {α β : Type} (g : Device → β) (f : Device → α → Device) (h : ∀ d a, g (f d a) = g d) (l : List α)
    (d : Device) : g (l.foldl f d) = g d := by
  induction l generalizing d with
  | nil => rfl
  | cons a l ih => exact (ih _).trans (h d a)

/-- The patterns of a stream end (R132). -/
def endPatternsOf (n : StreamId) (d : Device) : Device :=
  allPlayers.foldl (fun d p =>
    if hasPattern (d.player p) && (d.player p).stream == some n then endPattern p d else d) d

theorem keeps_endPatternsOf (n : StreamId) (d : Device) : Keeps d (endPatternsOf n d) :=
  keeps_foldl _ _ (fun d p _ => .ite (fun _ => keeps_endPattern p d) (fun _ => .refl d)) d

/-- The endings of patterns touch the players alone. -/
theorem endPatternsOf_frame (n : StreamId) (d : Device) :
    endPatternsOf n d = { d with players := (endPatternsOf n d).players } := by
  have hstep : ∀ (d : Device) (p : PlayerId),
      (fun e : Device => { e with players := d.players })
        (if hasPattern (d.player p) && (d.player p).stream == some n then endPattern p d else d) = d := by
    intro d p; dsimp only; split <;> rfl
  unfold endPatternsOf
  generalize allPlayers = l
  induction l generalizing d with
  | nil => rfl
  | cons p l ih =>
    rw [List.foldl_cons, ih]
    split <;> rfl

/-- A STOP leaves no entry of its stream (R132). -/
theorem heldCount_removeStream (n : StreamId) (d : Device) : heldCount (removeEntries (fun e => e.stream == n) d) n = 0 := by
  simp [heldCount, List.filter_filter]

/-- The steps of a teardown, by name (R132). -/
theorem tearDown_eq (n : StreamId) (d : Device) :
    tearDown n d =
      ((endPatternsOf n (((removeEntries (fun e => e.stream == n) d).mapLines (fun _ x =>
          if x.capture.any (fun c => c.stream == n) then { x with capture := none } else x)).modStream n
          (fun s => { s with armWait := none }))).mapLines (fun _ x =>
        if x.owner == some n then { x with owner := none, out := if x.mode = .output then x.safe else x.out }
        else x)).modStream n (fun s =>
      { s with state := .stopping, reason := .noWait, buffer := [], request := withdraw s.request,
               stopCount := stopWork d n, stopLines := ownedLines d n }) := rfl

theorem keeps_tearDown (n : StreamId) (d : Device) : Keeps d (tearDown n d) := by
  have hcaptures : ∀ e : Device, Keeps e (e.mapLines (fun _ x =>
      if x.capture.any (fun c => c.stream == n) then { x with capture := none } else x)) := fun e =>
    keeps_mapLines fun l x hx => by split <;> exact hx
  have harm : ∀ e : Device, Keeps e (e.modStream n (fun s => { s with armWait := none })) := fun e =>
    keeps_modStream (.of_same rfl rfl rfl fun _ => id)
  have hsafe : ∀ e : Device, Keeps e (e.mapLines (fun _ x =>
      if x.owner == some n then { x with owner := none, out := if x.mode = .output then x.safe else x.out } else x)) :=
    fun e => keeps_mapLines fun l x hx => by
      obtain ⟨ho, hrest⟩ := hx
      split
      · exact ⟨fun hm => (if_neg hm).trans (ho hm), hrest⟩
      · exact ⟨ho, hrest⟩
  have hstop : ∀ (e : Device) (w : Nat) (m : Mask), heldCount e n = 0 → Keeps e (e.modStream n (fun s =>
      { s with state := .stopping, reason := .noWait, buffer := [], request := withdraw s.request, stopCount := w,
               stopLines := m })) := fun e w m he =>
    keeps_modStream ⟨fun _ => by simp, fun w => ⟨w.1, fun _ => he⟩, fun _ hw => absurd hw (by simp)⟩
  rw [tearDown_eq]
  refine ((keeps_removeEntries (fun e => e.stream == n) d).trans ((hcaptures _).trans ((harm _).trans
    ((keeps_endPatternsOf n _).trans (hsafe _))))).trans (hstop _ _ _ ?_)
  rw [endPatternsOf_frame]
  unfold heldCount
  rw [Device.mapLines_calendar, Device.modStream_calendar, Device.mapLines_calendar]
  exact heldCount_removeStream n d

theorem tearDown_state (n : StreamId) (d : Device) : ((tearDown n d).stream n).state = .stopping := by
  unfold tearDown
  rw [Device.modStream_stream_self]

theorem keeps_stopStream (n : StreamId) (d : Device) : Keeps d (stopStream n d) := by
  have hstop : Keeps d (if stopOver (tearDown n d) n then becomeIdle n (tearDown n d) else tearDown n d) :=
    .ite (fun _ => (keeps_tearDown n d).trans (keeps_becomeIdle (tearDown_state n d))) (fun _ => keeps_tearDown n d)
  unfold stopStream
  split
  · exact hstop
  · exact hstop
  · exact hstop
  · exact keeps_cmdIgnored d
  · exact keeps_cmdIgnored d

theorem keeps_startStream (n : StreamId) (d : Device) : Keeps d (startStream n d) := by
  unfold startStream
  refine .ite (fun _ => keeps_cmdIgnored d) fun _ => ?_
  split
  · exact (keeps_modStream (.of_active (.inl rfl) rfl rfl)).trans (keeps_fetchTest n _)
  · exact (keeps_modStream (.of_active (.inl rfl) rfl rfl)).trans (keeps_fetchTest n _)
  all_goals exact keeps_cmdIgnored d

theorem keeps_writeTail (n : StreamId) (index : Nat) (d : Device) : Keeps d (writeTail n index d) := by
  have hwrite : Keeps d (if tailFits (d.stream n) index then
      fetchTest n (d.modStream n (fun s =>
        { s with tail := index,
                 request := if ringSpan index s.head s.size = fetchedCount s then withdraw s.request else s.request }))
      else badTail n index d) :=
    .ite (fun _ => (keeps_modStream (.of_same rfl rfl rfl fun _ => id)).trans (keeps_fetchTest n _))
      (fun _ => (keeps_haltStream n d).trans (keeps_postStream ..))
  unfold writeTail
  split
  · exact keeps_cmdIgnored d
  · exact keeps_cmdIgnored d
  all_goals exact hwrite

theorem keeps_failFetch (n : StreamId) (cause : Nat) (d : Device) : Keeps d (failFetch n cause d) :=
  (keeps_modStream (.of_same rfl rfl rfl fun _ => id)).trans ((keeps_haltStream n _).trans (keeps_postStream ..))

theorem keeps_streamReadEnd (n : StreamId) (r : ReadEnd) (d : Device) : Keeps d (streamReadEnd n r d) := by
  have hdata : ∀ records, Keeps d (fetchTest n (d.modStream n (fun s =>
      { s with buffer := s.buffer ++ records, request := .idle }))) := fun records =>
    (keeps_modStream (.of_same rfl rfl rfl fun r hr => by simp [List.head?_append, hr])).trans (keeps_fetchTest n _)
  have hsame : Keeps d (d.modStream n fun s => { s with request := .idle }) :=
    keeps_modStream (.of_same rfl rfl rfl fun _ => id)
  unfold streamReadEnd
  refine .ite (fun _ => ?_) (fun _ => ?_)
  · exact (keeps_modStream (.of_same rfl rfl rfl fun _ => id)).trans (keeps_fetchTest n _)
  · split
    · cases r with
      | data bytes => exact hdata _
      | busError | timedOut => exact keeps_failFetch ..
    · cases r with
      | data bytes => exact hdata _
      | busError | timedOut => exact keeps_failFetch ..
    · exact hsame

/-! ## Admission -/

/-- The judgement of a time within the horizon keeps an entry due now or ahead within it (R32, R49). -/
theorem dist_judged {d : Device} {t due : Time} {window : Nat} {lateRun late : Bool} (ht : outOfHorizon d t = false)
    (h : judge d.tb.now t window lateRun = .keep due late) : dist d.tb.now due ≤ 2 ^ 46 := by
  have hclass := inClass_classify d.tb.now t
  unfold outOfHorizon at ht
  unfold judge at h
  cases hc : classify d.tb.now t with
  | present =>
    rw [hc] at h hclass
    cases h
    exact (hclass : dist _ _ = 0).le.trans (Nat.zero_le _)
  | ahead k =>
    rw [hc] at h
    cases h
    obtain ⟨_, hk, rfl⟩ := classify_eq_ahead_iff.mp hc
    rw [dist_now_add]; omega
  | behind p =>
    rw [hc] at h
    have hdue : due = d.tb.now := by
      dsimp only at h
      unfold judgeLate at h
      split at h
      · cases h; rfl
      · split at h <;> cases h; rfl
    rw [hdue, dist_self]; exact Nat.zero_le _
  | outOfHorizon => rw [hc] at ht; exact absurd ht (by decide)

theorem dist_effectiveDue {d : Device} {t : Time} (ht : outOfHorizon d t = false) :
    dist d.tb.now (effectiveDue d t) ≤ 2 ^ 46 := by
  refine dist_judged (window := 2 ^ 46) (lateRun := false) (late := false) ht ?_
  unfold judge effectiveDue
  cases hc : classify d.tb.now t with
  | behind p =>
    obtain ⟨_, hp, _⟩ := classify_eq_behind_iff.mp hc
    exact if_pos hp
  | present | ahead k | outOfHorizon => rfl

/-- A stream waits for space or for a player at a record whose fields have been checked (R22, R102). -/
theorem Keeps.waitFor {d₀ d : Device} {n : StreamId} {w : WaitReason} (h : Keeps d₀ d) (hw : w ≠ .noWait) {r : Record}
    {k : StreamKind} (hhead : (d.stream n).buffer.head? = some r) (hkind : streamKindOf (StreamRecord.kind r) = some k)
    (hok : DueWf d₀ → fieldsOk k r = true) : Keeps d₀ (waitFor n w d) :=
  h.modStream (fun _ => by simp [hw]) (fun q => ⟨q.1, by simp⟩) fun due _ _ _ => ⟨r, k, hhead, hkind, hok due⟩

/-- A REL_ADV record moves the anchor at its consumption (R45): the stream's context is `consumedAt`. -/
theorem advanceAnchor_consume (n : StreamId) (r : Record) (t : Time) (d : Device) :
    advanceAnchor n r t (consume n d) = d.modStream n (Stream.consumedAt d.threshold r t) := by
  unfold advanceAnchor
  rw [consume_eq_modStream]
  have hanchor : ∀ x : Stream, ({ x.consumed d.threshold with anchor := t } : Stream) =
      ({ x with anchor := t } : Stream).consumed d.threshold := by
    intro x
    have hwanted : ∀ y : Stream, fetchWanted d.threshold { y with anchor := t } = fetchWanted d.threshold y := fun _ => rfl
    simp only [Stream.consumed, refetched_eq, hwanted { x with buffer := x.buffer.tail, head := (x.head + 1) % x.size }]
    split <;> rfl
  unfold Stream.consumedAt
  split
  · simp only [Device.modStream_modStream, hanchor]
  · rfl

@[simp] theorem Stream.consumedAt_state (threshold : Nat) (r : Record) (t : Time) (x : Stream) :
    (x.consumedAt threshold r t).state = x.state := by
  unfold Stream.consumedAt; split <;> simp

@[simp] theorem Stream.consumedAt_quota (threshold : Nat) (r : Record) (t : Time) (x : Stream) :
    (x.consumedAt threshold r t).quota = x.quota := by
  unfold Stream.consumedAt; split <;> simp

@[simp] theorem Stream.consumed_reason (threshold : Nat) (x : Stream) : (x.consumed threshold).reason = x.reason := by
  unfold Stream.consumed Stream.refetched; split <;> rfl

@[simp] theorem Stream.consumedAt_reason (threshold : Nat) (r : Record) (t : Time) (x : Stream) :
    (x.consumedAt threshold r t).reason = x.reason := by
  unfold Stream.consumedAt; split <;> simp

theorem keeps_consumedAt {n : StreamId} {d : Device} (hrun : (d.stream n).state = .running) (r : Record) (t : Time) :
    Keeps d (advanceAnchor n r t (consume n d)) :=
  (keeps_consume (by simp [hrun])).trans (keeps_advanceAnchor ..)

theorem keeps_skipLate {n : StreamId} {d : Device} (hrun : (d.stream n).state = .running) (r : Record) (t : Time)
    (p : Nat) : Keeps d (skipLate n r t p d) := (keeps_consumedAt hrun r t).trans (keeps_postStream ..)

/-- A record consumed with an entry that its stream has been granted (R54, R84, R104). -/
theorem Keeps.insertConsumed {d₀ d : Device} {n : StreamId} {e : Entry} (h : Keeps d₀ d)
    (hrun : (d.stream n).state = .running) (hg : entryGranted d n = true) (he : e.stream = n) (r : Record) (t : Time)
    (hf : DueWf d₀ → e.Fits d.tb.now) : Keeps d₀ (Machine.insertNew e (advanceAnchor n r t (consume n d))) := by
  refine (h.trans (keeps_consumedAt hrun r t)).insertNew ?_ ?_ ?_ ?_ <;> rw [advanceAnchor_consume]
  · rw [he, entryGranted_modStream (Stream.consumedAt_quota ..)]; exact hg
  · rw [he, Device.modStream_stream_self, Stream.consumedAt_state, hrun]; decide
  · rw [he, Device.modStream_stream_self, Stream.consumedAt_state, hrun]; decide
  · exact hf

/-- The period of a TRAIN in range is not 0 (R47). -/
theorem period_of_fieldsOk {r : Record} (h : fieldsOk .train r = true) : 2 ≤ (StreamRecord.paramB r).toNat := by
  simp only [fieldsOk, paramsOk, Bool.and_eq_true, decide_eq_true_eq] at h
  obtain ⟨⟨⟨_, ⟨h, _⟩, _⟩, _⟩, _⟩ := h
  exact h

/-- An action whose fields are in range makes an entry whose parts stay in their fields (R15). -/
theorem actionEntry_fits {now due : Time} (k : Action) (n : StreamId) {r : Record} (prio : Nat) (late : Bool)
    (hok : fieldsOk k.streamKind r = true) (hd : dist now due ≤ 2 ^ 46) : (actionEntry k n r prio due late).Fits now := by
  refine ⟨hd, fun p hp => ?_, fun g hg => ?_⟩
  · simp only [actionEntry, Action.phasePart] at hp
    split at hp <;> cases hp <;> exact (StreamRecord.paramA r).isLt
  · simp only [actionEntry, Action.trainPart] at hg
    split at hg <;> cases hg
    exact ⟨Nat.le_of_lt (period_of_fieldsOk hok), (StreamRecord.paramB r).isLt⟩

section
variable {d₀ d : Device} {n : StreamId} {r : Record} (h : Keeps d₀ d) (hrun : (d.stream n).state = .running)
  (hhead : (d.stream n).buffer.head? = some r)
include h hrun hhead

theorem keeps_admitActionTimed {k : Action} (hkind : streamKindOf (StreamRecord.kind r) = some k.streamKind)
    (hok : DueWf d₀ → fieldsOk k.streamKind r = true) : Keeps d₀ (admitActionTimed k n r d) := by
  unfold admitActionTimed
  refine .ite (fun _ => h.trans (keeps_refuse ..)) fun hout => ?_
  split
  · exact h.trans (keeps_skipLate hrun ..)
  · next due late hj =>
    refine .ite (fun hg => ?_) (fun _ => h.waitFor (by decide) hhead hkind hok)
    exact h.insertConsumed hrun hg rfl r _ fun w =>
      actionEntry_fits k n _ late (hok w) (dist_judged (Bool.eq_false_of_not_eq_true hout) hj)

theorem keeps_admitPatternTimed (hkind : streamKindOf (StreamRecord.kind r) = some .pattern)
    (hok : DueWf d₀ → fieldsOk .pattern r = true) : Keeps d₀ (admitPatternTimed n r d) := by
  unfold admitPatternTimed
  refine .ite (fun _ => h.trans (keeps_refuse ..)) fun hout => ?_
  split
  · exact h.trans (keeps_skipLate hrun ..)
  · next due late hj =>
    refine .ite (fun _ => h.waitFor (by decide) hhead hkind hok) fun hg => ?_
    split
    · exact h.waitFor (by decide) hhead hkind hok
    · next p _ =>
      have htake : Keeps d₀ (d.modPlayer p fun _ => primedPlayer n r) :=
        h.trans (keeps_modPlayer fun x hx => by simp [primedPlayer, Player.reset] at hx)
      have hg : entryGranted d n = true := by simpa using hg
      refine htake.insertConsumed hrun hg rfl r _ fun _ =>
        ⟨dist_judged (Bool.eq_false_of_not_eq_true hout) hj, fun p hp => ?_, fun g hg => ?_⟩
      · cases hp
      · cases hg

end

/-- An end entry or deadline fits. -/
theorem contextEntry_fits {d : Device} (n : StreamId) (r : Record) (kind : EntryKind) (x : ContextRef) {t : Time}
    (ht : outOfHorizon d t = false) :
    (contextEntry kind n r (d.stream n).prio (effectiveDue d t) x).Fits d.tb.now :=
  ⟨dist_effectiveDue ht, by simp [contextEntry], by simp [contextEntry]⟩

section
variable {d₀ d : Device} {n : StreamId} {r : Record} (h : Keeps d₀ d) (hrun : (d.stream n).state = .running)
  (hhead : (d.stream n).buffer.head? = some r)
include h hrun hhead

theorem keeps_admitCaptureTimed (resumed : Bool) (hkind : streamKindOf (StreamRecord.kind r) = some .capture)
    (hok : DueWf d₀ → fieldsOk .capture r = true) : Keeps d₀ (admitCaptureTimed n r resumed d) := by
  have hopen : Keeps d₀ (d.modLine (oneLine (StreamRecord.lines r)) fun x =>
      { x with capture := some (openedCapture n r) }) := h.trans (keeps_modLine id)
  unfold admitCaptureTimed
  refine .ite (fun _ => h.trans (keeps_refuse ..)) fun hout => .ite (fun _ => h.trans (keeps_refuse ..)) fun _ =>
    .ite (fun _ => h.waitFor (by decide) hhead hkind hok) fun hg => .ite (fun ht => ?_) fun _ => ?_
  · simp only [ht, Bool.true_and, Bool.not_eq_true] at hout hg
    have hg : entryGranted d n = true := by simpa using hg
    exact hopen.insertConsumed hrun hg rfl r _ fun _ => contextEntry_fits _ _ _ _ hout
  · exact hopen.trans (keeps_consume (by simp [hrun]))

omit hrun in
theorem keeps_admitArmTimed (hkind : streamKindOf (StreamRecord.kind r) = some .arm)
    (hok : DueWf d₀ → fieldsOk .arm r = true) : Keeps d₀ (admitArmTimed n r d) := by
  have hbegun : Keeps d₀ (waitFor n .arm (d.modStream n fun s => { s with armWait := some (begunArm r) })) :=
    (h.trans (keeps_modStream (.of_same rfl rfl rfl fun _ => id))).trans
      (keeps_waitFor (by decide) (by decide) (by decide) ..)
  have hstate : ((waitFor n .arm (d.modStream n fun s => { s with armWait := some (begunArm r) })).stream n).state =
      .waiting := by unfold waitFor; rw [Device.modStream_stream_self]
  unfold admitArmTimed
  refine .ite (fun _ => h.trans (keeps_refuse ..)) fun _ => .ite (fun _ => h.trans (keeps_refuse ..)) fun hout =>
    .ite (fun _ => h.waitFor (by decide) hhead hkind hok) fun hg => .ite (fun ht => ?_) fun _ => hbegun
  simp only [ht, Bool.true_and, Bool.not_eq_true] at hout hg
  refine hbegun.insertNew ?_ ?_ ?_ fun _ => contextEntry_fits _ _ _ _ hout
  · unfold waitFor
    exact (entryGranted_modStream rfl n).trans ((entryGranted_modStream rfl n).trans (by simpa using hg))
  · exact (hstate.trans_ne (by decide))
  · exact (hstate.trans_ne (by decide))

end

section
variable {d : Device} {n : StreamId} {r : Record} (hrun : (d.stream n).state = .running)
  (hhead : (d.stream n).buffer.head? = some r)
include hrun hhead

theorem keeps_admitAction {k : Action} (hkind : streamKindOf (StreamRecord.kind r) = some k.streamKind) :
    Keeps d (admitAction k n false d) := by
  unfold admitAction
  simp only [headRecord_of_head? hhead]
  refine .ite (fun hf => absurd hf (by decide)) fun _ => .ite (fun _ => keeps_refuse ..) fun hok => ?_
  split
  · exact keeps_refuse ..
  · exact keeps_admitActionTimed (.refl d) hrun hhead hkind fun _ => by simpa using hok

theorem keeps_admitPattern (hkind : streamKindOf (StreamRecord.kind r) = some .pattern) :
    Keeps d (admitPattern n false d) := by
  unfold admitPattern
  simp only [headRecord_of_head? hhead]
  refine .ite (fun hf => absurd hf (by decide)) fun _ => .ite (fun _ => keeps_refuse ..) fun hok => ?_
  split
  · exact keeps_refuse ..
  · exact keeps_admitPatternTimed (.refl d) hrun hhead hkind fun _ => by simpa using hok

theorem keeps_admitCapture (hkind : streamKindOf (StreamRecord.kind r) = some .capture) :
    Keeps d (admitCapture n false d) := by
  unfold admitCapture
  simp only [headRecord_of_head? hhead]
  refine .ite (fun hf => absurd hf (by decide)) fun _ => .ite (fun _ => keeps_refuse ..) fun hok => ?_
  split
  · exact keeps_refuse ..
  · exact keeps_admitCaptureTimed (.refl d) hrun hhead false hkind fun _ => by simpa using hok

omit hrun in
theorem keeps_admitArm (hkind : streamKindOf (StreamRecord.kind r) = some .arm) : Keeps d (admitArm n false d) := by
  unfold admitArm
  simp only [headRecord_of_head? hhead]
  exact .ite (fun _ => keeps_refuse ..) fun hok =>
    keeps_admitArmTimed (.refl d) hhead hkind fun _ => by simpa using hok

end

theorem keeps_admitNop {n : StreamId} {d : Device} (hrun : (d.stream n).state = .running) : Keeps d (admitNop n d) :=
  .ite (fun _ => keeps_refuse ..) fun _ => (keeps_consume (by simp [hrun])).trans (keeps_postNotified ..)

theorem keeps_admitAnchor {n : StreamId} {d : Device} (hrun : (d.stream n).state = .running) :
    Keeps d (admitAnchor n d) :=
  .ite (fun _ => keeps_refuse ..) fun _ => .ite (fun _ => keeps_refuse ..) fun _ =>
    ((keeps_modStream (.of_same rfl rfl rfl fun _ => id)).trans (keeps_consume (by simp [hrun]))).trans
      (keeps_postNotified ..)

theorem keeps_admitWait (n : StreamId) (d : Device) : Keeps d (admitWait n d) := by
  have hfound : ∀ k, Keeps d (d.modStream n fun s => { s with found := k }) := fun k =>
    keeps_modStream (.of_same rfl rfl rfl fun _ => id)
  exact .ite (fun _ => keeps_refuse ..) fun _ => .ite (fun _ => (hfound _).trans (keeps_passWait ..)) fun _ =>
    (hfound _).trans (keeps_waitFor (by decide) (by decide) (by decide) ..)

theorem keeps_admitClaim {n : StreamId} {d : Device} (hrun : (d.stream n).state = .running) :
    Keeps d (admitClaim n d) := by
  refine .ite (fun _ => keeps_refuse ..) fun _ => .ite (fun _ => keeps_refuse ..) fun _ => ?_
  have howned : ∀ m, Keeps d (d.mapLines fun l x => if inMask m l then { x with owner := some n } else x) := fun m =>
    keeps_mapLines fun l x hx => by split <;> exact hx
  exact ((howned _).trans (keeps_consume (by simp [hrun]))).trans (keeps_postNotified ..)

theorem keeps_admitRelease (n : StreamId) (d : Device) : Keeps d (admitRelease n d) := by
  refine .ite (fun _ => keeps_refuse ..) fun _ => .ite (fun _ => keeps_refuse ..) fun _ => ?_
  have hend : ∀ (l : List LineId) (i j : Nat), Keeps d ((l.foldl (fun d l => endCapture l d) d).modStream n fun s =>
      { s with found := i, ended := j }) := fun l i j =>
    (keeps_foldl _ l (fun d k _ => keeps_endCapture k d) d).trans (keeps_modStream (.of_same rfl rfl rfl fun _ => id))
  exact .ite (fun _ => (hend _ _ _).trans (keeps_completeRelease ..)) fun _ =>
    (hend _ _ _).trans (keeps_waitFor (by decide) (by decide) (by decide) ..)

/-! ## CANCEL -/

theorem keeps_cancelDrive (e : Entry) (d : Device) : Keeps d (cancelDrive e d) := by
  unfold cancelDrive
  refine .ite (fun _ => keeps_applyDrive ..) fun _ => ?_
  split
  · exact .ite (fun _ => keeps_applyDrive ..) fun _ => .refl d
  · exact .refl d

@[simp] theorem applyDrive_streams (m levels : Mask) (d : Device) : (applyDrive m levels d).streams = d.streams :=
  Device.mapLines_streams ..

@[simp] theorem cancelDrive_streams (e : Entry) (d : Device) : (cancelDrive e d).streams = d.streams := by
  unfold cancelDrive
  split
  · simp
  · split
    · split <;> simp
    · rfl

/-- The end of the pattern of an entry that a CANCEL removes (R112). -/
def cancelPattern (e : Entry) (d : Device) : Device :=
  match e.kind, e.player with
  | .patternStep, some p => endPattern p d
  | _, _ => d

theorem keeps_cancelPattern (e : Entry) (d : Device) : Keeps d (cancelPattern e d) := by
  unfold cancelPattern
  split
  · exact keeps_endPattern ..
  · exact .refl d

@[simp] theorem cancelPattern_streams (e : Entry) (d : Device) : (cancelPattern e d).streams = d.streams := by
  unfold cancelPattern; split <;> rfl

/-- The steps of a CANCEL's removal, by name (R61 to R63). -/
theorem cancelWork_eq (n : StreamId) (r : Record) (d : Device) :
    cancelWork n r d =
      let removed := d.calendar.filter (cancelRemoves n r)
      let d := removeEntries (cancelRemoves n r)
        (removed.foldl (fun d e => cancelPattern e d) (removed.foldl (fun d e => cancelDrive e d) d))
      { d with calendar := d.calendar.map (fun e => if cancelKeeps n r e then finishKept e else e) } := rfl

/-- A kept train stands where it stood, its parts within their fields (R62). -/
theorem keeps_finishKept (p : Entry → Bool) (d : Device) :
    Keeps d { d with calendar := d.calendar.map (fun e => if p e then finishKept e else e) } := by
  have hsame : ∀ e : Entry, (if p e then finishKept e else e).stream = e.stream ∧
      (if p e then finishKept e else e).due = e.due ∧ (if p e then finishKept e else e).prio = e.prio ∧
      (if p e then finishKept e else e).phase = e.phase := by intro e; split <;> exact ⟨rfl, rfl, rfl, rfl⟩
  have hperiod : ∀ (e : Entry) (g : TrainPart), (if p e then finishKept e else e).train = some g →
      ∃ g', e.train = some g' ∧ g.period = g'.period := by
    intro e g hg
    split at hg
    · obtain ⟨g', hg', rfl⟩ := Option.map_eq_some_iff.mp hg
      exact ⟨g', hg', rfl⟩
    · exact ⟨g, hg, rfl⟩
  refine ⟨⟨id, id, id, id, id, id, id, id⟩, fun w => (List.length_map ..).trans_le w, fun w n => ?_, fun w => ?_⟩
  · have hheld : heldCount { d with calendar := d.calendar.map (fun e => if p e then finishKept e else e) } n =
        heldCount d n := by
      simp only [heldCount, List.filter_map, List.length_map, Function.comp_def, hsame]
    rw [hheld]; exact w n
  · obtain ⟨order, near, parts, others⟩ := w
    refine ⟨List.pairwise_map.mpr (order.imp fun h => ?_), fun x hx => ?_, fun x hx => ?_, others⟩
    · rw [staysAhead_iff] at *; simpa only [hsame] using h
    · obtain ⟨e, he, rfl⟩ := List.mem_map.mp hx
      rw [(hsame e).2.1]; exact near e he
    · obtain ⟨e, he, rfl⟩ := List.mem_map.mp hx
      refine ⟨fun q hq => (parts e he).1 q (by rw [← hq, (hsame e).2.2.2]), fun g hg => ?_⟩
      obtain ⟨g', hg', hp⟩ := hperiod e g hg
      rw [hp]; exact (parts e he).2 g' hg'

theorem keeps_cancelWork (n : StreamId) (r : Record) (d : Device) : Keeps d (cancelWork n r d) := by
  rw [cancelWork_eq]
  exact (((keeps_foldl _ _ (fun d e _ => keeps_cancelDrive e d) d).trans
    (keeps_foldl _ _ (fun d e _ => keeps_cancelPattern e d) _)).trans (keeps_removeEntries ..)).trans
      (keeps_finishKept (cancelKeeps n r) _)

@[simp] theorem cancelWork_streams (n : StreamId) (r : Record) (d : Device) : (cancelWork n r d).streams = d.streams := by
  rw [cancelWork_eq]
  exact (foldl_fixes Device.streams _ (fun d e => cancelPattern_streams e d) _ _).trans
    (foldl_fixes Device.streams _ (fun d e => cancelDrive_streams e d) _ _)

theorem keeps_admitCancel {n : StreamId} {d : Device} (hrun : (d.stream n).state = .running) :
    Keeps d (admitCancel n d) := by
  refine .ite (fun _ => keeps_refuse ..) fun _ => ?_
  have hwork : ∀ r, Keeps d (consume n (cancelWork n r d)) := fun r =>
    (keeps_cancelWork n r d).trans (keeps_consume (by unfold Device.stream at *; simp [hrun]))
  exact (((hwork _).trans (keeps_foldl _ _ (fun d x _ => keeps_postStream ..) _)).trans
    (keeps_foldl _ _ (fun d l _ => keeps_endCapture l d) _)).trans (keeps_postNotified ..)

/-! ## The record at the head -/

/-- A stream that admits a record of a kind is RUNNING and has it at its head. -/
theorem head_of_admits {d : Device} {n : StreamId} {k : Option StreamKind} (h : admits d n k = true) :
    (d.stream n).state = .running ∧ ∃ r, (d.stream n).buffer.head? = some r ∧ streamKindOf (StreamRecord.kind r) = k := by
  simp only [admits, Bool.and_eq_true, beq_iff_eq, Bool.not_eq_true', List.isEmpty_eq_false_iff] at h
  obtain ⟨⟨hrun, hne⟩, hkind⟩ := h
  obtain ⟨r, l, hb⟩ := List.exists_cons_of_ne_nil hne
  refine ⟨hrun, r, by rw [hb]; rfl, ?_⟩
  rwa [headRecord, hb] at hkind

theorem keeps_whenAdmits {n : StreamId} {k : Option StreamKind} {f : Device → Device} {d : Device}
    (h : ∀ r, (d.stream n).state = .running → (d.stream n).buffer.head? = some r →
      streamKindOf (StreamRecord.kind r) = k → Keeps d (f d)) : Keeps d (whenAdmits n k f d) := by
  refine .ite (fun ha => ?_) fun _ => .refl d
  obtain ⟨hrun, r, hhead, hkind⟩ := head_of_admits ha
  exact h r hrun hhead hkind

/-- What a resumption of the record at the head does to a stream whose buffer holds one. -/
theorem keeps_resumeHead {n : StreamId} {d : Device} (hwait : (d.stream n).state = .waiting)
    (hreason : (d.stream n).reason = .space ∨ (d.stream n).reason = .player) : Keeps d (resumeHead n d) := by
  have hset := keeps_setRunning n d
  have hself : (setRunning n d).stream n = { d.stream n with state := .running, reason := .noWait } :=
    Device.modStream_stream_self ..
  have hrun : ((setRunning n d).stream n).state = .running := by rw [hself]
  cases hb : (d.stream n).buffer with
  | nil =>
    have hnone : streamKindOf (StreamRecord.kind (headRecord ((setRunning n d).stream n))) = none := by
      rw [hself, headRecord, hb]; decide
    unfold resumeHead
    dsimp only
    rw [hnone]
    exact hset
  | cons r l =>
    have hhead : ((setRunning n d).stream n).buffer.head? = some r := by rw [hself, hb]; rfl
    have hok : ∀ k, streamKindOf (StreamRecord.kind r) = some k → DueWf d → fieldsOk k r = true := by
      intro k hk w
      obtain ⟨_, _, _, _, resumable⟩ := w
      obtain ⟨r', k', hr', hk', hok⟩ := resumable n hwait hreason
      rw [hb] at hr'
      cases hr'
      rw [hk] at hk'
      cases hk'
      exact hok
    unfold resumeHead admitAction admitPattern admitCapture admitArm
    simp only [headRecord_of_head? hhead, if_true, Bool.not_true, Bool.false_and, Bool.false_eq_true, if_false]
    split
    · exact keeps_admitActionTimed (k := .set) hset hrun hhead ‹_› (hok _ ‹_›)
    · exact keeps_admitActionTimed (k := .pulse) hset hrun hhead ‹_› (hok _ ‹_›)
    · exact keeps_admitActionTimed (k := .train) hset hrun hhead ‹_› (hok _ ‹_›)
    · exact keeps_admitActionTimed (k := .marker) hset hrun hhead ‹_› (hok _ ‹_›)
    · exact keeps_admitPatternTimed hset hrun hhead ‹_› (hok _ ‹_›)
    · exact keeps_admitCaptureTimed hset hrun hhead true ‹_› (hok _ ‹_›)
    · exact keeps_admitArmTimed hset hhead ‹_› (hok _ ‹_›)
    all_goals exact hset

end Sys2Proof.Machine
end

section
/-! SUPPORT. The completion unit, the device states, the host port and the control ring keep every invariant; so does
every command and every period, and with them every step. -/

namespace Sys2Proof.Machine

/-! ## The completion unit -/

/-- The holding buffer may lose records, and records their prefixes. -/
theorem keeps_holding {d d' : Device}
    (h : d' = { d with holding := d'.holding, writes := d'.writes, nextWrite := d'.nextWrite,
                       outstanding := d'.outstanding })
    (hl : d'.holding.length ≤ d.holding.length) (hm : ∀ x ∈ d'.holding, ∃ y ∈ d.holding, x.queue = y.queue) :
    Keeps d d' := by
  rw [h]
  refine ⟨⟨fun ⟨hlen, hact⟩ => ⟨hl.trans hlen, fun x hx => ?_⟩, id, id, id, id, id, id, id⟩, id, id, id⟩
  obtain ⟨y, hy, hq⟩ := hm x hx
  rw [hq]
  exact hact y hy

theorem keeps_serveHolding (front : List Held) (d : Device) (rest : List Held) (hd : d.holding = front ++ rest) :
    Keeps d (serveHolding front d rest) := by
  induction rest generalizing front with
  | nil => exact .refl d
  | cons h rest ih =>
    unfold serveHolding
    refine .ite (fun _ => ?_) fun _ => ih (front ++ [h]) (by rw [hd]; simp)
    split
    · next p _ =>
      refine keeps_holding rfl (by simp [issueCompletion, issueWrite, hd]) fun x hx => ?_
      replace hx : x ∈ front ++ { h with overflow := none } :: rest := hx
      rcases List.mem_append.mp hx with hx | hx
      · exact ⟨x, by rw [hd]; exact List.mem_append_left _ hx, rfl⟩
      · rcases List.mem_cons.mp hx with rfl | hx
        · exact ⟨h, by rw [hd]; simp, rfl⟩
        · exact ⟨x, by rw [hd]; simp [hx], rfl⟩
    · refine keeps_holding rfl (by simp [issueCompletion, issueWrite, hd]) fun x hx => ⟨x, ?_, rfl⟩
      replace hx : x ∈ front ++ rest := hx
      rw [hd]
      rcases List.mem_append.mp hx with hx | hx <;> simp [hx]

theorem keeps_serveWriter (d : Device) : Keeps d (serveWriter d) :=
  .ite (fun _ => .refl d) fun _ => keeps_serveHolding [] d d.holding rfl

theorem keeps_outstanding (o : Option Outstanding) (d : Device) : Keeps d { d with outstanding := o } := .of_unspoken rfl

theorem keeps_writeSucceeded (q : CqId) (d : Device) : Keeps d (writeSucceeded q d) :=
  ((keeps_outstanding none d).trans (keeps_modQueue id id)).trans (keeps_coalesce q _)

/-- A queue becomes FAULTED once no record for it is held (R146). -/
theorem keeps_faulted {q : CqId} {d : Device} (h : ∀ x ∈ d.holding, x.queue ≠ q) :
    Keeps d (d.modQueue q fun c => { c with state := .faulted, timer := none }) where
  up := id
  reads := id
  timebase := id
  lines := id
  waits := id
  event := id
  calendar := id
  quota := id
  due := id
  holding w := by
    obtain ⟨hl, hq⟩ := w
    refine ⟨hl, fun x hx => ?_⟩
    rw [Device.modQueue_queue_other _ _ _ _ (h x hx)]
    exact hq x hx
  queues w k := by
    rw [Device.modQueue_queue]
    split
    · obtain ⟨hl, hu, _⟩ := w q
      exact ⟨hl, hu, by simp⟩
    · exact w k

@[simp] theorem signalRemaining_holding (q : CqId) (d : Device) : (signalRemaining q d).holding = d.holding := by
  unfold signalRemaining; split <;> rfl

theorem keeps_faultQueue (o : Outstanding) (d : Device) : Keeps d (faultQueue o d) := by
  have hdiscard : ∀ e : Device, Keeps e { e with holding := e.holding.filter (fun h => h.queue != o.queue) } := fun e =>
    keeps_holding rfl (List.length_filter_le ..) fun x hx => ⟨x, List.mem_of_mem_filter hx, rfl⟩
  unfold faultQueue
  refine ((keeps_outstanding none d).trans ((keeps_addLost ..).trans ((hdiscard _).trans
    (keeps_signalRemaining o.queue _)))).trans ((keeps_faulted fun x hx => ?_).trans (keeps_setEvent (faultBit_within _) _))
  rw [signalRemaining_holding] at hx
  simpa using (List.mem_filter.mp hx).2

theorem keeps_endWrite (w : Write) (success : Bool) (d : Device) : Keeps d (endWrite w success d) := by
  have hdrop : Keeps d (dropWrite w.identity d) := .of_unspoken rfl
  unfold endWrite
  refine .ite (fun _ => hdrop) fun _ => ?_
  split
  · exact hdrop.trans keeps_modCtl
  · split
    · exact hdrop
    · exact .ite (fun _ => hdrop.trans (keeps_writeSucceeded ..)) fun _ => hdrop.trans (keeps_faultQueue ..)

theorem keeps_answerWrite (identity : Nat) (kind : Writer) (success : Bool) (d : Device) :
    Keeps d (answerWrite identity kind success d) := by
  unfold answerWrite
  split
  · exact .refl d
  · exact .ite (fun _ => keeps_endWrite ..) fun _ => .refl d

theorem keeps_timeOutWrite (identity : Nat) (d : Device) : Keeps d (timeOutWrite identity d) := by
  unfold timeOutWrite
  split
  · exact .refl d
  · exact keeps_endWrite ..

theorem keeps_timerRunsOut (q : CqId) (d : Device) : Keeps d (timerRunsOut q d) :=
  .ite (fun _ => keeps_raiseAttention q d) fun _ => .refl d

theorem keeps_clearAttention (q : CqId) (d : Device) : Keeps d (clearAttention q d) := by
  have hclear := keeps_clearEvent (attnBit q) d
  unfold clearAttention
  exact .ite (fun _ => hclear) fun hu => .ite (fun _ => hclear.trans (keeps_raiseAttention q _)) fun _ =>
    .ite (fun _ => hclear.trans (keeps_startTimer (Nat.pos_of_ne_zero hu))) fun _ => hclear

theorem keeps_writeHead (q : CqId) (index : Nat) (d : Device) : Keeps d (writeHead q index d) :=
  .ite (fun _ => keeps_modQueue id id) fun _ => keeps_cmdIgnored d

/-! ## The timebase -/

theorem keeps_enterRunning {d : Device} (h : d.tb.present = true) : Keeps d (enterRunning d) :=
  keeps_modTb rfl fun ⟨h1, h2, _, _, h5, h6, h7, _, _⟩ => ⟨h1, h2, h1, fun _ => rfl, h5, h6, h7, fun _ => h, by simp⟩

theorem keeps_stopTime {m : TbMode} {d : Device} (hr : m ≠ .running) (hl : m = .lost → d.tb.present = false) :
    Keeps d (stopTime m d) :=
  keeps_modTb rfl fun ⟨h1, h2, _, _, h5, h6, h7, _, _⟩ =>
    ⟨h1, h2, h1, fun _ => rfl, h5, h6, h7, fun h => absurd h hr, hl⟩

theorem keeps_holdTime (d : Device) : Keeps d (stopTime .held d) := keeps_stopTime (by decide) (fun h => by cases h)

/-- The gap clears the reference-present flag, and a RUNNING timebase that had it becomes LOST (R6, R8). -/
theorem takeGap_eq (d : Device) :
    takeGap d =
      if d.tb.present ∧ d.tb.mode = .running then
        postTimebase .refLost (d.modTb fun t =>
          { t with gap := 64, qual := 0, present := false, mode := .lost, divider := 0 })
      else d.modTb fun t => { t with gap := 64, qual := 0, present := false } := rfl

theorem keeps_takeGap (d : Device) : Keeps d (takeGap d) := by
  rw [takeGap_eq]
  refine .ite (fun _ => Keeps.trans (keeps_modTb rfl ?_) (keeps_postTimebase ..)) fun h => keeps_modTb rfl ?_
  · rintro ⟨h1, h2, _⟩
    exact ⟨h1, h2, h1, fun _ => rfl, Nat.le_refl _, Nat.zero_le _, by simp, by simp, fun _ => rfl⟩
  · rintro ⟨h1, h2, h3, h4, _, _, _, h8, _⟩
    exact ⟨h1, h2, h3, h4, Nat.le_refl _, Nat.zero_le _, by simp, fun hr => absurd ⟨h8 hr, hr⟩ h, fun _ => rfl⟩

/-- The flag sets, and a LOST timebase becomes RUNNING (R7, R9). -/
theorem qualify_eq (d : Device) :
    qualify d =
      if d.tb.mode = .lost then
        postTimebase .refRestored (d.modTb fun t =>
          { t with qual := 4096, present := true, mode := .running, divider := 0 })
      else d.modTb fun t => { t with qual := 4096, present := true } := rfl

theorem keeps_qualify (d : Device) : Keeps d (qualify d) := by
  rw [qualify_eq]
  refine .ite (fun _ => Keeps.trans (keeps_modTb rfl ?_) (keeps_postTimebase ..)) fun h => keeps_modTb rfl ?_
  · rintro ⟨h1, h2, _, _, h5, _⟩
    exact ⟨h1, h2, h1, fun _ => rfl, h5, Nat.le_refl _, by simp, fun _ => rfl, by simp⟩
  · rintro ⟨h1, h2, h3, h4, h5, _⟩
    exact ⟨h1, h2, h3, h4, h5, Nat.le_refl _, by simp, fun _ => rfl, fun hl => absurd hl h⟩

theorem keeps_setGap {k : Nat} (hk : k ≤ 64) (d : Device) : Keeps d (d.modTb fun t => { t with gap := k }) :=
  keeps_modTb rfl fun ⟨h1, h2, h3, h4, _, hrest⟩ => ⟨h1, h2, h3, h4, hk, hrest⟩

theorem keeps_countEdge (d : Device) : Keeps d (countEdge d) := by
  have hgap := keeps_setGap (Nat.zero_le 64) d
  unfold countEdge
  refine .ite (fun _ => hgap) fun hp => .ite (fun hq => hgap.trans (keeps_modTb rfl ?_)) fun _ =>
    hgap.trans (keeps_qualify _)
  rintro ⟨h1, h2, h3, h4, h5, h6, h7, h8⟩
  replace hq : d.tb.qual + 1 < 4096 := hq
  replace hp : d.tb.present = false := Bool.eq_false_of_not_eq_true hp
  exact ⟨h1, h2, h3, h4, h5, Nat.le_of_lt hq, by simp [hp]; omega, h8⟩

/-- The monitor's part of an edge makes no timebase leave RUNNING (R7). -/
theorem countEdge_running {d : Device} (h : d.tb.mode = .running) : (countEdge d).tb.mode = .running := by
  unfold countEdge
  dsimp only
  split
  · exact h
  · split
    · exact h
    · rw [qualify_eq, if_neg (by simp [h])]; exact h

theorem keeps_countDivider {d : Device} (hrun : d.tb.mode = .running) : Keeps d (countDivider d) := by
  unfold countDivider
  refine .ite (fun hp => keeps_modTb rfl ?_) fun _ => keeps_advanceTime hrun
  rintro ⟨h1, h2, _, _, hrest⟩
  exact ⟨h1, h2, hp, fun hr => absurd hrun hr, hrest⟩

theorem isRunning_iff {d : Device} : d.isRunning = true ↔ d.tb.mode = .running := by simp [Device.isRunning]

theorem keeps_referenceEdge (d : Device) : Keeps d (referenceEdge d) :=
  .ite (fun h => (keeps_countEdge d).trans (keeps_countDivider (countEdge_running (isRunning_iff.mp h)))) fun _ =>
    keeps_countEdge d

/-! ## Resets, teardown and boot -/

@[simp] theorem reset_stream (n : StreamId) : Device.reset.stream n = Stream.reset := by
  simp [Device.stream, Device.reset, Vector.get_eq_getElem]

@[simp] theorem reset_line (l : LineId) : Device.reset.line l = Line.reset := by
  simp [Device.line, Device.reset, Vector.get_eq_getElem]

@[simp] theorem reset_player (p : PlayerId) : Device.reset.player p = Player.reset := by
  simp [Device.player, Device.reset, Vector.get_eq_getElem]

@[simp] theorem reset_queue (q : CqId) : Device.reset.queue q = Queue.reset := by
  simp [Device.queue, Device.reset, Vector.get_eq_getElem]

/-- Settles O5. -/
theorem resetMeetsEveryInvariant : Obligations.ResetMeetsEveryInvariant := by
  refine ⟨⟨by decide, by simp [State.reset, Device.reset]⟩, ⟨by decide, List.nodup_nil, by simp [State.reset, Device.reset]⟩,
    Nat.zero_le _, ?_, fun l => ?_, fun n => ?_, ⟨by decide, by decide⟩, fun q => ?_, fun n => ?_,
    ⟨.nil, by simp [State.reset, Device.reset], by simp [State.reset, Device.reset], fun p => ?_, fun n => ?_⟩⟩
  · simp [TimebaseWf, State.reset, Device.reset, Timebase.reset]
  · simp [Line.Wf, State.reset, Line.reset]
  · simp [State.reset, Stream.reset]
  · simp [State.reset, Queue.reset]
  · exact ⟨Nat.zero_le _, fun _ => rfl⟩
  · simp [State.reset, Player.reset]
  · simp [State.reset, Stream.reset]

/-- Every block at its reset values, with the reads of `d`, some of them perhaps forgotten or marked. -/
theorem keeps_resetBlocks {d : Device} (host : HostPort) (reads : List Read) (writes : List Write) (nextWrite : Nat)
    (he : EventWf d → EventWf { d with host := host }) (hup : d.host.resetN = true → host.resetN = true)
    (hr : ReadsWf d → ReadsWf { d with reads := reads }) :
    Keeps d { Device.reset with host := host, reads := reads, writes := writes, nextRead := d.nextRead,
                                nextWrite := nextWrite } := by
  obtain ⟨hholding, -, hcalendar, htimebase, hlines, hwaits, -, hqueues, hquota, hdue⟩ := resetMeetsEveryInvariant
  exact ⟨⟨fun _ => hholding, hr, fun _ => htimebase, fun _ => hlines, fun _ => hwaits, he, fun _ => hqueues, hup⟩,
    fun _ => hcalendar, fun _ => hquota, fun _ => hdue⟩

theorem keeps_clearBlocks (d : Device) : Keeps d (clearBlocks d) :=
  keeps_resetBlocks d.host d.reads d.writes d.nextWrite id id id

theorem keeps_setTimeHi (v : BitVec 16) (d : Device) : Keeps d (d.modTb fun t => { t with timeHi := v }) :=
  keeps_modTb rfl id

theorem keeps_passToOff (d : Device) : Keeps d (passToOff d) :=
  ((keeps_foldl _ allQueues (fun d q _ => keeps_signalRemaining q d) d).trans (keeps_clearBlocks _)).trans
    (keeps_setTimeHi _ _)

theorem keeps_softReset (d : Device) : Keeps d (softReset d) := by
  refine keeps_resetBlocks _ _ _ _ (fun ⟨_, hm⟩ => ⟨BitVec.zero_and, hm⟩) id fun ⟨hl, hn, hi⟩ => ⟨?_, ?_, fun r hr => ?_⟩
  · simpa using hl
  · simpa [Function.comp_def] using hn
  · obtain ⟨x, hx, rfl⟩ := List.mem_map.mp hr
    exact hi x hx

/-- After a pin reset every invariant holds, and RESET_N may rise again (R157). -/
theorem keeps_pinReset (d : Device) : Keeps d ((pinReset d).modHost fun h => { h with resetN := true }) :=
  keeps_resetBlocks _ [] [] _ (fun _ => ⟨BitVec.zero_and, BitVec.zero_and⟩) (fun _ => rfl)
    fun _ => ⟨Nat.zero_le _, List.nodup_nil, by simp⟩

theorem keeps_enableDevice (d : Device) : Keeps d (enableDevice d) := by
  unfold enableDevice
  refine .ite (fun _ => keeps_cmdIgnored d) fun _ => ?_
  split
  · exact keeps_modCtl
  · exact keeps_cmdIgnored d
  all_goals exact .refl d

theorem keeps_beginStopping (d : Device) : Keeps d (beginStopping d) := by
  unfold beginStopping
  refine Keeps.trans ((keeps_holdTime d).trans (keeps_foldl _ allStreams (fun d n _ => ?_) _)) keeps_modCtl
  split
  · exact keeps_stopStream n d
  · exact keeps_stopStream n d
  · exact keeps_stopStream n d
  all_goals exact .refl d

theorem keeps_disableDevice (d : Device) : Keeps d (disableDevice d) := by
  have hstop : Keeps d (if teardownOver (beginStopping d) then passToOff (beginStopping d) else beginStopping d) :=
    .ite (fun _ => (keeps_beginStopping d).trans (keeps_passToOff _)) fun _ => keeps_beginStopping d
  unfold disableDevice
  refine .ite (fun _ => keeps_cmdIgnored d) fun _ => ?_
  split
  · exact hstop
  · exact hstop
  · exact keeps_passToOff d
  all_goals exact .refl d

theorem keeps_failBoot (d : Device) : Keeps d (failBoot d) := keeps_modCtl.trans (keeps_setEvent (by decide) _)

theorem keeps_enterOn (b : BootBlock) (d : Device) : Keeps d (enterOn b d) := by
  have hqueue : ∀ e : Device, Keeps e (e.modQueue 0 (fun c =>
      { c with state := .active, base := BitVec.ofNat 64 b.cqBase, size := b.cqSize, tail := 0, head := 0, phase := true,
               lost := 0, countThreshold := b.countThreshold, timeThreshold := b.timeThreshold, unsignalled := 0,
               timer := none })) := fun e => keeps_modQueue (fun _ => rfl) fun _ => ⟨Nat.zero_le _, Nat.zero_le _, by simp⟩
  exact (keeps_modCtl.trans (hqueue _)).trans (keeps_setEvent (by decide) _)

theorem keeps_bootReadEnd (r : ReadEnd) (d : Device) : Keeps d (bootReadEnd r d) := by
  refine .ite (fun _ => keeps_modCtl) fun _ => ?_
  cases r with
  | data bytes => exact .ite (fun _ => keeps_enterOn ..) fun _ => keeps_failBoot d
  | busError | timedOut => exact keeps_failBoot d

/-! ## Reads -/

/-- A read enters the table while a slot is free, with an identity not used before (R169). -/
theorem keeps_issueRead {d : Device} (hslot : d.reads.length < 8) (i : Issuer) (addr : Addr) (length timeout : Nat) :
    Keeps d (issueRead i addr length timeout d) := by
  refine ⟨⟨id, fun ⟨_, hn, hi⟩ => ⟨?_, ?_, fun r hr => ?_⟩, id, id, id, id, id, id⟩, id, id, id⟩
  · simpa [issueRead] using hslot
  · simp only [issueRead, List.map_append, List.map_cons, List.map_nil]
    refine List.nodup_append.mpr ⟨hn, by simp, fun a ha b hb => ?_⟩
    obtain ⟨r, hr, rfl⟩ := List.mem_map.mp ha
    rw [List.mem_singleton.mp hb]
    exact Nat.ne_of_lt (hi r hr)
  · rcases List.mem_append.mp hr with hr | hr
    · exact Nat.lt_succ_of_lt (hi r hr)
    · rw [List.mem_singleton.mp hr]; exact Nat.lt_succ_self _

theorem keeps_grantBoot {d : Device} (hslot : d.reads.length < 8) : Keeps d (grantBoot d) :=
  .ite (fun _ => keeps_modCtl.trans (keeps_issueRead (by exact hslot) ..)) fun _ => keeps_failBoot d

theorem keeps_grantRead (d : Device) : Keeps d (grantRead d) := by
  unfold grantRead
  refine .ite (fun _ => .refl d) fun hslot => .ite (fun _ => keeps_grantBoot (Nat.lt_of_not_le hslot)) fun _ => ?_
  replace hslot : d.reads.length < 8 := Nat.lt_of_not_le hslot
  split
  · next p _ =>
    have hplayer : Keeps d (d.modPlayer p fun pl => { pl with request := .inFlight pl.asked }) :=
      keeps_modPlayer fun x hx => .inl hx
    exact hplayer.trans (keeps_issueRead (by exact hslot) ..)
  · refine .ite (fun _ => keeps_modCtl.trans (keeps_issueRead (by exact hslot) ..)) fun _ => ?_
    split
    · next n _ =>
      have hstream : ∀ k, Keeps d (d.modStream n fun s => { s with request := .inFlight k }) := fun k =>
        keeps_modStream (.of_same rfl rfl rfl fun _ => id)
      have hturn : ∀ (e : Device) v, Keeps e { e with roundRobin := v } := fun e v => .of_unspoken rfl
      exact ((hstream _).trans (hturn _ _)).trans (keeps_issueRead (by exact hslot) ..)
    · exact .refl d

/-- Reads may leave the table. -/
theorem keeps_dropReads (p : Read → Bool) (d : Device) : Keeps d { d with reads := d.reads.filter p } :=
  ⟨⟨id, fun ⟨hl, hn, hi⟩ => ⟨(List.length_filter_le ..).trans hl, hn.sublist (List.filter_sublist.map _),
    fun r hr => hi r (List.mem_of_mem_filter hr)⟩, id, id, id, id, id, id⟩, id, id, id⟩

theorem keeps_controlReadEnd (r : ReadEnd) (d : Device) : Keeps d (controlReadEnd r d) := by
  unfold controlReadEnd
  split
  · exact keeps_modCtl.trans (keeps_controlFetchTest _)
  · exact keeps_modCtl

theorem keeps_handRead (i : Issuer) (r : ReadEnd) (d : Device) : Keeps d (handRead i r d) := by
  cases i with
  | bootstrap => exact keeps_bootReadEnd r d
  | player p => exact keeps_playerReadEnd p r d
  | control => exact keeps_controlReadEnd r d
  | stream n => exact keeps_streamReadEnd n r d

theorem keeps_endRead (identity : Nat) (r : ReadEnd) (d : Device) : Keeps d (endRead identity r d) := by
  unfold endRead
  split
  · exact .refl d
  · have hdrop := keeps_dropReads (fun y => y.identity != identity) d
    exact .ite (fun _ => .refl d) fun _ => .ite (fun _ => hdrop) fun _ => hdrop.trans (keeps_handRead ..)

/-! ## Urgent events -/

theorem keeps_consumeQuery (d : Device) : Keeps d (consumeQuery d) := by
  unfold consumeQuery
  split
  · exact .refl d
  · have hconsume : Keeps d (controlConsume (d.modCtl fun c => { c with query := none })) :=
      keeps_modCtl.trans (keeps_controlConsume _)
    exact .ite (fun _ => hconsume.trans (keeps_postControl ..)) fun _ => hconsume.trans (keeps_postControl ..)

theorem mem_of_firstByPriority {d : Device} {ns : List StreamId} {n : StreamId} (h : firstByPriority d ns = some n) :
    n ∈ ns := List.mem_of_find?_eq_some h

/-- The stream that the arbiter of free space serves waits for space. -/
theorem waits_of_spaceChoice {d : Device} {n : StreamId} (h : spaceChoice d = some n) :
    (d.stream n).state = .waiting ∧ (d.stream n).reason = .space := by
  have hn := List.mem_of_mem_filter (mem_of_firstByPriority h)
  simpa [waitingFor] using (List.mem_filter.mp hn).2

/-- The stream that the arbiter of players serves waits for a player. -/
theorem waits_of_playerChoice {d : Device} {n : StreamId} (h : playerChoice d = some n) :
    (d.stream n).state = .waiting ∧ (d.stream n).reason = .player := by
  unfold playerChoice at h
  split at h
  · simpa [waitingFor] using (List.mem_filter.mp (mem_of_firstByPriority h)).2
  · cases h

/-- A STOPPING stream without a read is STOPPING. -/
theorem stopping_of_stopOver {d : Device} {n : StreamId} (h : stopOver d n = true) :
    (d.stream n).state = .stopping := by
  simp only [stopOver, Bool.and_eq_true, beq_iff_eq] at h
  exact h.1

theorem keeps_urgentOf {u : Urgency} {d d' : Device} (h : urgentOf u d = some d') : Keeps d d' := by
  have hafter : ∀ x, afterInstant d x = some d' → x = some d' := by
    intro x hx
    unfold afterInstant at hx
    split at hx
    · cases hx
    · exact hx
  cases u with
  | edge =>
    simp only [urgentOf, urgentEdge] at h
    split at h
    · cases h
    · have hedges : ∀ rest, Keeps d { d with edges := rest } := fun _ => .of_unspoken rfl
      cases h
      exact (hedges _).trans (keeps_fireArm ..)
  | report =>
    simp only [urgentOf, urgentReport] at h
    split at h
    · cases h
    · cases h
      exact (keeps_reports _ d).trans (keeps_testReport ..)
  | stopped =>
    obtain ⟨n, hn, rfl⟩ := Option.map_eq_some_iff.mp (h : urgentStopped d = some d')
    exact keeps_becomeIdle (stopping_of_stopOver (List.find?_some hn))
  | expiry =>
    simp only [urgentOf, urgentExpiry] at h
    split at h <;> cases h
    exact keeps_expireHead d
  | space =>
    obtain ⟨n, hn, rfl⟩ := Option.map_eq_some_iff.mp (hafter _ h)
    obtain ⟨hw, hr⟩ := waits_of_spaceChoice hn
    exact keeps_resumeHead hw (.inl hr)
  | player =>
    obtain ⟨n, hn, rfl⟩ := Option.map_eq_some_iff.mp (hafter _ h)
    obtain ⟨hw, hr⟩ := waits_of_playerChoice hn
    exact keeps_resumeHead hw (.inr hr)
  | query =>
    have h := hafter _ h
    simp only [urgentQuery] at h
    split at h <;> cases h
    exact keeps_consumeQuery d
  | teardown =>
    have h := hafter _ h
    simp only [urgentTeardown] at h
    split at h <;> cases h
    exact keeps_passToOff d
  | grant =>
    have h := hafter _ h
    simp only [urgentGrant] at h
    split at h <;> cases h
    exact keeps_grantRead d
  | write =>
    have h := hafter _ h
    simp only [urgentWrite] at h
    split at h <;> cases h
    exact keeps_serveWriter d

theorem keeps_settle (due : Bool) (us : List Urgency) (d : Device) : Keeps d (settle due us d) :=
  settle_keeps (P := Keeps d) due us (fun _ _ _ h hu => h.trans (keeps_urgentOf hu))
    (fun _ h => h.trans (keeps_expireHead _)) d (.refl d)

/-! ## The control ring -/

theorem keeps_refuseControl (r : Record) (code : RefusalCode) (line : Nat) (d : Device) :
    Keeps d (refuseControl r code line d) := (keeps_controlConsume d).trans (keeps_postControl ..)

theorem keeps_whenTakes {k : Option ControlKind} {f : Record → Device → Device} {d : Device}
    (h : ∀ r, Keeps d (f r d)) : Keeps d (whenTakes k f d) := by
  unfold whenTakes
  split
  · exact .ite (fun _ => h _) fun _ => .refl d
  all_goals exact .refl d

theorem keeps_takeFailedPlace (d : Device) : Keeps d (takeFailedPlace d) := by
  unfold takeFailedPlace
  split
  · exact .ite (fun _ => (keeps_controlConsume d).trans (keeps_postControl ..)) fun _ => .refl d
  all_goals exact .refl d

theorem keeps_takeNop (r : Record) (d : Device) : Keeps d (takeNop r d) :=
  .ite (fun _ => keeps_refuseControl ..) fun _ => (keeps_controlConsume d).trans (keeps_controlDone ..)

theorem keeps_runTime (d : Device) : Keeps d (runTime d) := by
  unfold runTime
  split
  · next hm =>
    refine .ite keeps_enterRunning fun hp => keeps_modTb rfl ?_
    rintro ⟨h1, h2, h3, h4, h5, h6, h7, _, _⟩
    exact ⟨h1, h2, h3, fun _ => h4 (by simp [hm]), h5, h6, h7, by simp, fun _ => Bool.eq_false_of_not_eq_true hp⟩
  all_goals exact .refl d

theorem keeps_takeTimeRun (r : Record) (d : Device) : Keeps d (takeTimeRun r d) :=
  .ite (fun _ => keeps_refuseControl ..) fun _ =>
    ((keeps_controlConsume d).trans (keeps_runTime _)).trans (keeps_controlDone ..)

theorem keeps_takeTimeHold (r : Record) (d : Device) : Keeps d (takeTimeHold r d) :=
  .ite (fun _ => keeps_refuseControl ..) fun _ =>
    ((keeps_controlConsume d).trans (keeps_holdTime _)).trans (keeps_controlDone ..)

theorem keeps_takeTimeConfig (r : Record) (d : Device) : Keeps d (takeTimeConfig r d) := by
  refine .ite (fun _ => keeps_refuseControl ..) fun h => ?_
  simp only [Bool.or_eq_true, Bool.not_eq_true', bne_iff_ne, ne_eq, not_or, Bool.not_eq_false, not_not] at h
  obtain ⟨⟨_, hp⟩, hheld⟩ := h
  simp only [prescaleOk, Bool.and_eq_true, decide_eq_true_eq] at hp
  have hconfig : Keeps (controlConsume d) ((controlConsume d).modTb fun t => { t with prescale := fieldAt r 16 2 }) := by
    rw [controlConsume_eq]
    refine keeps_modTb rfl ?_
    rintro ⟨h1, h2, _, h4, hrest⟩
    have hdiv : d.tb.divider = 0 := h4 (by simp [hheld])
    exact ⟨hp.1, hp.2, hdiv.trans_lt hp.1, fun _ => hdiv, hrest⟩
  exact ((keeps_controlConsume d).trans hconfig).trans (keeps_controlDone ..)

@[simp] theorem controlConsume_calendar (d : Device) : (controlConsume d).calendar = d.calendar := by
  rw [controlConsume_eq]

@[simp] theorem controlConsume_tb (d : Device) : (controlConsume d).tb = d.tb := by rw [controlConsume_eq]

theorem stepAllowed_controlConsume (delta : Int) (d : Device) :
    stepAllowed delta (controlConsume d) = stepAllowed delta d := by rw [controlConsume_eq]; rfl

theorem keeps_takeStep {delta : Int} {d : Device} (h : stepAllowed delta d = true) (r : Record) :
    Keeps d (takeStep r delta d) :=
  ((((keeps_controlConsume d).trans (keeps_stepTime (by rw [stepAllowed_controlConsume]; exact h))).trans
    (keeps_postControl ..)).trans (keeps_controlDone ..)).trans (keeps_instantOpen _ _)

theorem keeps_takeTimeStep (r : Record) (d : Device) : Keeps d (takeTimeStep r d) := by
  unfold takeTimeStep
  refine .ite (fun _ => keeps_refuseControl ..) fun _ => .ite (fun _ => keeps_refuseControl ..) fun h => ?_
  exact keeps_takeStep (by simpa using h) r

theorem keeps_takeTimeSet (r : Record) (d : Device) : Keeps d (takeTimeSet r d) := by
  unfold takeTimeSet
  refine .ite (fun _ => keeps_refuseControl ..) fun _ => .ite (fun he => ?_) fun _ =>
    .ite (fun _ => keeps_refuseControl ..) fun h => ?_
  · have hset : Keeps (controlConsume d) ((controlConsume d).modTb fun t => { t with now := StreamRecord.time r }) := by
      refine keeps_move fun ⟨_, _, _, others⟩ => ?_
      have hnil : d.calendar = [] := by simpa using he
      exact ⟨by rw [controlConsume_calendar, hnil]; exact .nil, by simp [hnil], by simp [hnil], others⟩
    exact ((keeps_controlConsume d).trans hset).trans (keeps_controlDone ..)
  · simp only [Bool.or_eq_true, Bool.not_eq_true', not_or, Bool.not_eq_false] at h
    exact keeps_takeStep h.2 r

/-- A CONFIGURE_STREAM finds its stream IDLE, which holds no entry (R117, R118). -/
theorem keeps_takeConfigureStream (r : Record) (d : Device) : Keeps d (takeConfigureStream r d) := by
  unfold takeConfigureStream
  split
  · exact keeps_refuseControl ..
  · next n _ =>
    refine .ite (fun _ => keeps_refuseControl ..) fun hidle => .ite (fun _ => keeps_refuseControl ..) fun _ => ?_
    have hidle : ((controlConsume d).stream n).state = .idle := by
      rw [controlConsume_eq]; exact not_not.mp hidle
    have hconfig : Keeps (controlConsume d) ((controlConsume d).modStream n (configuredStream r)) :=
      keeps_modStream ⟨id, fun w => ⟨(w.2 (.inl hidle)).trans_le (Nat.zero_le _), w.2⟩, id⟩
    exact ((keeps_controlConsume d).trans hconfig).trans (keeps_controlDone ..)

theorem keeps_takeConfigureCq (r : Record) (d : Device) : Keeps d (takeConfigureCq r d) := by
  unfold takeConfigureCq
  split
  · exact keeps_refuseControl ..
  · next q _ =>
    refine .ite (fun _ => keeps_refuseControl ..) fun _ => ?_
    have hconfig : ∀ e : Device, Keeps e (e.modQueue q (configuredQueue r)) := fun e =>
      keeps_modQueue (fun _ => rfl) fun ⟨hl, _, _⟩ => ⟨hl, Nat.zero_le _, by simp [configuredQueue]⟩
    exact ((keeps_controlConsume d).trans (hconfig _)).trans (keeps_controlDone ..)

/-- A CONFIGURE_LINE leaves its line well-formed (R67 to R69). -/
theorem configuredLine_wf {r : Record} {l : LineId} {m : LineMode} (h : namedLineMode r = some (l, m)) (level : Bool)
    (x : Line) : (configuredLine r m level x).Wf := by
  have hf : fieldAt r 7 1 ≤ 15 := by
    unfold namedLineMode at h
    split at h
    · next hok =>
      simp only [Bool.and_eq_true, decide_eq_true_eq] at hok
      exact hok.1.2
    · cases h
  cases m <;> simp [configuredLine, Line.Wf, hf]

theorem keeps_takeConfigureLine (level : Bool) (r : Record) (d : Device) : Keeps d (takeConfigureLine level r d) := by
  unfold takeConfigureLine
  split
  · exact keeps_refuseControl ..
  · next l m hn =>
    refine .ite (fun _ => keeps_refuseControl ..) fun _ => ?_
    have hconfig : ∀ e : Device, Keeps e (e.modLine l (configuredLine r m level)) := fun e =>
      keeps_modLine fun _ => configuredLine_wf hn level _
    exact ((keeps_controlConsume d).trans (hconfig _)).trans (keeps_controlDone ..)

theorem keeps_applyThreshold (d : Device) : Keeps d (applyThreshold d) :=
  keeps_foldl _ _ (fun d n _ => .ite (fun _ => keeps_modStream (.of_same rfl rfl rfl fun _ => id)) fun _ =>
    keeps_fetchTest n d) d

theorem keeps_takeSetThreshold (r : Record) (d : Device) : Keeps d (takeSetThreshold r d) := by
  have hset : ∀ (e : Device) k, Keeps e { e with threshold := k } := fun e k => .of_unspoken rfl
  unfold takeSetThreshold
  exact .ite (fun _ => keeps_refuseControl ..) fun _ =>
    (((keeps_controlConsume d).trans (hset _ _)).trans (keeps_applyThreshold _)).trans (keeps_controlDone ..)

theorem keeps_takeQuery (r : Record) (d : Device) : Keeps d (takeQuery r d) := by
  have hissue : ∀ addr bytes, Keeps d (issueSnapshot addr bytes d) := fun addr bytes =>
    keeps_foldl _ _ (fun e o _ => .of_unspoken rfl) d
  exact .ite (fun _ => keeps_refuseControl ..) fun _ => (hissue _ _).trans keeps_modCtl

/-! ## Registers -/

theorem keeps_writeControlTail (index : Nat) (d : Device) : Keeps d (writeControlTail index d) :=
  .ite (fun _ => keeps_cmdIgnored d) fun _ => .ite (fun _ => keeps_cmdIgnored d) fun _ =>
    .ite (fun _ => keeps_cmdIgnored d) fun _ => keeps_modCtl.trans (keeps_controlFetchTest _)

theorem keeps_writeQueueIndex (word : W32) (d : Device) : Keeps d (writeQueueIndex word d) :=
  .ite (fun _ => keeps_cmdIgnored d) fun _ => .ite (fun _ => keeps_writeControlTail ..) fun _ =>
    .ite (fun _ => keeps_writeTail ..) fun _ => keeps_writeHead ..

theorem keeps_writeEvent (word : W32) (d : Device) : Keeps d (writeEvent word d) :=
  (keeps_clearEvent word d).trans
    (keeps_foldl _ _ (fun d q _ => .ite (fun _ => .refl d) fun _ => keeps_clearAttention q d) _)

theorem keeps_writeEventMask (word : W32) (d : Device) : Keeps d (writeEventMask word d) :=
  keeps_modHost (fun ⟨he, _⟩ => ⟨he, by
    show word &&& 0x7FF#32 &&& ~~~0x7FF#32 = 0
    rw [BitVec.and_assoc]; exact BitVec.and_zero⟩) id

theorem keeps_writeControl (word : W32) (d : Device) : Keeps d (writeControl word d) :=
  .ite (fun _ => keeps_softReset d) fun _ => .ite (fun _ => keeps_enableDevice d) fun _ => keeps_disableDevice d

theorem keeps_writeWindow (offset size : Nat) (word : W32) (d : Device) : Keeps d (writeWindow offset size word d) := by
  refine .ite (fun _ => ?_) fun _ => .refl d
  unfold writeRegister
  split
  · exact keeps_writeControl word d
  · exact keeps_modHost id id
  · exact keeps_modHost id id
  · exact keeps_writeQueueIndex word d
  · exact keeps_foldl _ _ (fun d n _ => (keeps_settle ..).trans (keeps_startStream n _)) d
  · exact keeps_foldl _ _ (fun d n _ => (keeps_settle ..).trans (keeps_stopStream n _)) d
  · exact keeps_writeEvent word d
  · exact keeps_writeEventMask word d
  · exact .refl d

/-! ## A period of the internal oscillator -/

theorem keeps_countGap (d : Device) : Keeps d (countGap d) :=
  .ite (fun _ => keeps_takeGap d) fun _ => .ite (fun h => keeps_setGap h d) fun _ => .refl d

theorem keeps_ageCounts (d : Device) : Keeps d (ageCounts d) := by
  have hqueue : ∀ q, (ageCounts d).queue q = { d.queue q with timer := (d.queue q).timer.map (· + 1) } := by
    intro q; simp [ageCounts, Device.queue, Vector.get_eq_getElem]
  refine ⟨⟨fun ⟨hl, hact⟩ => ⟨hl, fun x hx => ?_⟩, fun ⟨hl, hn, hi⟩ => ⟨?_, ?_, fun r hr => ?_⟩, id, fun w l => ?_, id, id,
    fun w q => ?_, id⟩, id, id, id⟩
  · rw [hqueue]; exact hact x hx
  · simpa [ageCounts] using hl
  · simpa [ageCounts, Function.comp_def] using hn
  · obtain ⟨x, hx, rfl⟩ := List.mem_map.mp hr
    exact hi x hx
  · rw [ageCounts_eq, aged_line]; exact w l
  · obtain ⟨hl, hu, ht⟩ := w q
    rw [hqueue]
    exact ⟨hl, hu, by simpa using ht⟩

theorem keeps_runOut (x : RunOut) (d : Device) : Keeps d (runOut x d) := by
  cases x with
  | read i => exact keeps_endRead ..
  | write i => exact keeps_timeOutWrite ..
  | timer q => exact keeps_timerRunsOut ..

theorem keeps_oscillatorPeriod (d : Device) : Keeps d (oscillatorPeriod d) := by
  have hsamples : Keeps d (samplePins d) :=
    keeps_foldl _ _ (fun d x _ => (keeps_settle ..).trans (keeps_sampleLine ..)) d
  exact (((hsamples.trans (keeps_settle ..)).trans (keeps_countGap _)).trans (keeps_ageCounts _)).trans
    (keeps_foldl _ _ (fun d x _ => (keeps_settle ..).trans (keeps_runOut x _)) _)

/-! ## Commands -/

theorem keeps_act {f : Device → Device} (hf : ∀ d, Keeps d (f d)) {s t : State} (h : act f s = .next t) :
    Keeps s.dev t.dev := by
  obtain ⟨_, hd | hd⟩ := act_cases h <;> rw [hd]
  · exact hf s.dev
  · exact .refl _

theorem keeps_event {f : Device → Device} (hf : ∀ d, Keeps d (f d)) {s t : State} (h : event f s = .next t) :
    Keeps s.dev t.dev := keeps_act (fun _ => (keeps_settle ..).trans (hf _)) h

theorem keeps_timeEvent {f : Device → Device} (hf : ∀ d, Keeps d (f d)) {s t : State} (h : timeEvent f s = .next t) :
    Keeps s.dev t.dev := keeps_act (fun _ => (keeps_settle ..).trans (hf _)) h

theorem keeps_withdrawalEvent {f : Device → Device} (hf : ∀ d, Keeps d (f d)) {s t : State}
    (h : withdrawalEvent f s = .next t) : Keeps s.dev t.dev := keeps_act (fun _ => (keeps_settle ..).trans (hf _)) h

theorem keeps_admission {n : StreamId} {k : Option StreamKind} {f : Device → Device}
    (hf : ∀ d r, (d.stream n).state = .running → (d.stream n).buffer.head? = some r →
      streamKindOf (StreamRecord.kind r) = k → Keeps d (f d)) {s t : State} (h : admission n k f s = .next t) :
    Keeps s.dev t.dev := keeps_event (fun d => keeps_whenAdmits (hf d)) h

theorem keeps_expire {k : EntryKind} {s t : State} (h : expire k s = .next t) : Keeps s.dev t.dev :=
  keeps_act (fun d => (keeps_settle false beforeExpiry d).trans (.ite (fun _ => keeps_expireHead _) fun _ => .refl _)) h

theorem keeps_fireHanded (n : StreamId) (d : Device) : Keeps d (fireHanded n d) := by
  unfold fireHanded
  split
  · exact .refl d
  · have hedges : ∀ l, Keeps d { d with edges := l } := fun _ => .of_unspoken rfl
    exact (hedges _).trans (keeps_fireArm ..)

theorem keeps_tick {d : Device} :
    Keeps d (if d.isRunning then advanceTime (d.modTb (fun t => { t with gap := 0 })) else d) :=
  .ite (fun h => (keeps_setGap (Nat.zero_le 64) d).trans (keeps_advanceTime (isRunning_iff.mp h))) fun _ => .refl d

/-- Every command keeps every invariant. -/
theorem keeps_exec {c : Instr} {s t : State} (hc : c ≠ .pinReset) (h : exec c s = .next t) : Keeps s.dev t.dev := by
  cases c with
  | tick => exact keeps_timeEvent (fun _ => keeps_tick) h
  | refGap => exact keeps_timeEvent keeps_takeGap h
  | refQualified =>
    exact keeps_event (fun d => .ite (fun _ => .refl d) fun _ =>
      (keeps_setGap (Nat.zero_le 64) d).trans (keeps_qualify _)) h
  | setExpiry | pulseExpiry | trainExpiry | markerReached | patternStepExpiry | captureEnd | armTimeout =>
    exact keeps_expire h
  | edgeEvent l a => exact keeps_event (fun d => .ite (fun hm => keeps_acceptEdge hm a) fun _ => .refl d) h
  | armFired n => exact keeps_act (keeps_fireHanded n) h
  | coalescingTimeout q => exact keeps_event (keeps_timerRunsOut q) h
  | readGrant => exact keeps_act (fun d => (keeps_settle ..).trans (keeps_grantRead _)) h
  | readDataReturn i data => exact keeps_event (keeps_endRead i _) h
  | readBusError i | readTimeout i => exact keeps_event (keeps_endRead i _) h
  | completionWriteIssue => exact keeps_act (fun d => (keeps_settle ..).trans (keeps_serveWriter _)) h
  | writeSuccess i | writeBusError i => exact keeps_event (keeps_answerWrite i _ _) h
  | writeTimeout i => exact keeps_event (keeps_timeOutWrite i) h
  | queryConsumed =>
    exact keeps_act (fun d => (keeps_settle false beforeQuery d).trans
      (.ite (fun _ => keeps_consumeQuery _) fun _ => .refl _)) h
  | nop n => exact keeps_admission (fun d r hrun _ _ => keeps_admitNop hrun) h
  | set n => exact keeps_admission (fun d r hrun hhead hk => keeps_admitAction (k := .set) hrun hhead hk) h
  | pulse n => exact keeps_admission (fun d r hrun hhead hk => keeps_admitAction (k := .pulse) hrun hhead hk) h
  | train n => exact keeps_admission (fun d r hrun hhead hk => keeps_admitAction (k := .train) hrun hhead hk) h
  | marker n => exact keeps_admission (fun d r hrun hhead hk => keeps_admitAction (k := .marker) hrun hhead hk) h
  | anchor n => exact keeps_admission (fun d r hrun _ _ => keeps_admitAnchor hrun) h
  | wait n => exact keeps_admission (fun d r _ _ _ => keeps_admitWait n d) h
  | barrierPass n | releaseComplete n => exact keeps_act (fun d => (keeps_settle ..).trans (keeps_endWait n _ _)) h
  | cancel n => exact keeps_withdrawalEvent (fun d => keeps_whenAdmits fun r hrun _ _ => keeps_admitCancel hrun) h
  | claim n => exact keeps_admission (fun d r hrun _ _ => keeps_admitClaim hrun) h
  | release n => exact keeps_admission (fun d r _ _ _ => keeps_admitRelease n d) h
  | capture n => exact keeps_admission (fun d r hrun hhead hk => keeps_admitCapture hrun hhead hk) h
  | arm n => exact keeps_admission (fun d r _ hhead hk => keeps_admitArm hhead hk) h
  | pattern n => exact keeps_admission (fun d r hrun hhead hk => keeps_admitPattern hrun hhead hk) h
  | streamBadKind n => exact keeps_admission (fun d r _ _ _ => keeps_refuse ..) h
  | spaceGrant | playerGrant => exact keeps_act (keeps_settle false _) h
  | streamStopped n =>
    exact keeps_act (fun d => (keeps_settle false beforeStopped d).trans
      (.ite (fun ho => keeps_becomeIdle (stopping_of_stopOver ho)) fun _ => .refl _)) h
  | teardownComplete =>
    exact keeps_act (fun d => (keeps_settle false beforeTeardown d).trans
      (.ite (fun _ => keeps_passToOff _) fun _ => .refl _)) h
  | cNop => exact keeps_event (fun d => keeps_whenTakes fun r => keeps_takeNop r d) h
  | timeConfig => exact keeps_event (fun d => keeps_whenTakes fun r => keeps_takeTimeConfig r d) h
  | timeSet => exact keeps_timeEvent (fun d => keeps_whenTakes fun r => keeps_takeTimeSet r d) h
  | timeStep => exact keeps_timeEvent (fun d => keeps_whenTakes fun r => keeps_takeTimeStep r d) h
  | timeRun => exact keeps_event (fun d => keeps_whenTakes fun r => keeps_takeTimeRun r d) h
  | timeHold => exact keeps_timeEvent (fun d => keeps_whenTakes fun r => keeps_takeTimeHold r d) h
  | configureStream => exact keeps_event (fun d => keeps_whenTakes fun r => keeps_takeConfigureStream r d) h
  | configureCq => exact keeps_event (fun d => keeps_whenTakes fun r => keeps_takeConfigureCq r d) h
  | configureLine level => exact keeps_event (fun d => keeps_whenTakes fun r => keeps_takeConfigureLine level r d) h
  | setThreshold => exact keeps_event (fun d => keeps_whenTakes fun r => keeps_takeSetThreshold r d) h
  | query => exact keeps_event (fun d => keeps_whenTakes fun r => keeps_takeQuery r d) h
  | controlBadKind => exact keeps_event (fun d => keeps_whenTakes fun r => keeps_refuseControl r _ _ d) h
  | failedPlace => exact keeps_event keeps_takeFailedPlace h
  | enable => exact keeps_event keeps_enableDevice h
  | disable => exact keeps_act (fun d => (keeps_settle ..).trans (keeps_disableDevice _)) h
  | softReset => exact keeps_event keeps_softReset h
  | pinReset => exact absurd rfl hc
  | resetNRise =>
    cases h
    have hrise : Keeps s.dev (s.dev.modHost fun h => { h with resetN := true }) := keeps_modHost (fun w => w) fun _ => rfl
    exact hrise
  | controlRingTailWrite i => exact keeps_event (keeps_writeControlTail _) h
  | tailWrite n i => exact keeps_event (keeps_writeTail n _) h
  | headWrite q i => exact keeps_event (keeps_writeHead q _) h
  | invalidSelector w => exact keeps_event (fun d => .ite (fun _ => .refl d) fun _ => keeps_cmdIgnored d) h
  | start n => exact keeps_event (keeps_startStream n) h
  | stop n => exact keeps_withdrawalEvent (keeps_stopStream n) h
  | attnClear q => exact keeps_event (keeps_clearAttention q) h
  | eventClear w => exact keeps_event (keeps_writeEvent w) h
  | eventMaskWrite w => exact keeps_act (keeps_writeEventMask w) h
  | timeLoRead =>
    cases h
    have hread : ∀ (d : Device) (v : W32), Keeps d (d.modHost fun h => { h with readData := v }) := fun _ _ =>
      keeps_modHost (fun w => w) id
    exact .ite (fun _ => (keeps_setTimeHi _ s.dev).trans (hread _ _)) fun _ => hread _ _
  | registerWrite o z w => exact keeps_act (fun d => (keeps_settle ..).trans (keeps_writeWindow o z w _)) h
  | referenceEdge => exact keeps_timeEvent keeps_referenceEdge h
  | inputSample l v a => exact keeps_event (keeps_sampleLine l v a) h
  | snapshotWriteResponse i ok => exact keeps_event (keeps_answerWrite i _ ok) h

/-- Every invariant that `d` meets, `d'` meets, whatever RESET_N is. -/
def KeepsWf (d d' : Device) : Prop :=
  (HoldingWf d → HoldingWf d') ∧ (ReadsWf d → ReadsWf d') ∧ (TimebaseWf d → TimebaseWf d') ∧ (LinesWf d → LinesWf d') ∧
    (WaitsWf d → WaitsWf d') ∧ (EventWf d → EventWf d') ∧ (QueuesWf d → QueuesWf d') ∧ (CalendarWf d → CalendarWf d') ∧
    (QuotaWf d → QuotaWf d') ∧ (DueWf d → DueWf d')

/-- No invariant speaks of RESET_N. -/
theorem Keeps.wf {d d' : Device} {b : Bool} (h : Keeps d (d'.modHost fun h => { h with resetN := b })) : KeepsWf d d' :=
  ⟨h.holding, h.reads, h.timebase, h.lines, h.waits, h.event, h.queues, h.calendar, h.quota, h.due⟩

/-- Every step keeps every invariant. -/
theorem keeps_step {s t : State} (h : step s = .next t) : KeepsWf s.dev t.dev := by
  unfold step at h
  split at h
  · exact Keeps.wf (b := t.dev.host.resetN) (keeps_act keeps_oscillatorPeriod h)
  · next c rest _ =>
    by_cases hc : c = .pinReset
    · subst hc
      cases h
      exact (keeps_pinReset s.dev).wf
    · exact Keeps.wf (b := t.dev.host.resetN) (keeps_exec (s := { s with pending := rest }) hc h)

/-! ## The invariants -/

/-- Settles O6. -/
theorem stepKeepsHoldingWf : Obligations.StepKeepsHoldingWf := by
  intro _ _ w h
  obtain ⟨hholding, -⟩ := keeps_step h
  exact hholding w

/-- Settles O7. -/
theorem stepKeepsReadsWf : Obligations.StepKeepsReadsWf := by
  intro _ _ w h
  obtain ⟨-, hreads, -⟩ := keeps_step h
  exact hreads w

/-- Settles O8. -/
theorem stepKeepsCalendarWf : Obligations.StepKeepsCalendarWf := by
  refine ⟨fun _ _ w h => ?_, fun _ _ w h => ?_, fun _ _ w h => ?_⟩ <;>
    obtain ⟨-, -, -, -, -, -, -, hcalendar, hquota, hdue⟩ := keeps_step h
  · exact hcalendar w
  · exact hquota w
  · exact hdue w

/-- Settles O9. -/
theorem stepKeepsTimebaseWf : Obligations.StepKeepsTimebaseWf := by
  intro _ _ w h
  obtain ⟨-, -, htimebase, -⟩ := keeps_step h
  exact htimebase w

/-- Settles O10. -/
theorem stepKeepsLinesWf : Obligations.StepKeepsLinesWf := by
  intro _ _ w h
  obtain ⟨-, -, -, hlines, -⟩ := keeps_step h
  exact hlines w

/-- Settles O11. -/
theorem stepKeepsWaitsWf : Obligations.StepKeepsWaitsWf := by
  intro _ _ w h
  obtain ⟨-, -, -, -, hwaits, -⟩ := keeps_step h
  exact hwaits w

/-- Settles O12. -/
theorem stepKeepsEventAndQueuesWf : Obligations.StepKeepsEventAndQueuesWf := by
  refine ⟨fun _ _ w h => ?_, fun _ _ w h => ?_⟩ <;> obtain ⟨-, -, -, -, -, hevent, hqueues, -⟩ := keeps_step h
  · exact hevent w
  · exact hqueues w

end Sys2Proof.Machine
end

section
/-! SUPPORT. The queue of commands, the reset state, completions, drives and device time. -/

namespace Sys2Proof.Machine

/-! ## Commands -/

/-- Settles O1. -/
theorem stepTakesFrontCommand : Obligations.StepTakesFrontCommand := by
  intro c rest s h
  simp [step, h]

/-- Settles O3: every command is an action on the part, or sets fields of it alone. -/
theorem everyCommandCompletes : Obligations.EveryCommandCompletes := by
  intro c s
  cases c <;> exact ⟨_, rfl, rfl⟩

/-! ## Reset -/

/-- Settles O4. -/
theorem resetLeavesEveryBlock : Obligations.ResetLeavesEveryBlock := by
  refine ⟨rfl, rfl, rfl, rfl, rfl, fun _ => rfl, fun l => ?_, fun p => ?_, fun n => ?_, rfl, rfl, rfl, fun q => ?_, rfl, rfl,
    rfl, rfl, by decide, by decide, rfl, rfl, fun k => ?_⟩
  · simp [watchCount, pin, State.reset, Line.reset, Stream.reset]
  · simp [State.reset, Player.reset]
  · simp [State.reset, Stream.reset]
  · simp [State.reset, Queue.reset]
  · simp [roundRobinAt, State.reset, Device.reset, Vector.get_eq_getElem]

/-! ## Completions and drives -/

/-- Settles O15. -/
theorem postTakesOrCounts : Obligations.PostTakesOrCounts := fun q c d => ⟨posted_post q c d, post_frame q c d⟩

/-- A drive reaches the OUTPUT lines of its mask (R74). -/
theorem driven_applyDrive (m levels : Mask) (d : Device) : Driven m levels d (applyDrive m levels d) := by
  intro l
  simp only [applyDrive, Device.mapLines_line, Bool.and_eq_true, beq_iff_eq]

/-- A drive touches the line table alone (R74). -/
theorem applyDrive_frame (m levels : Mask) (d : Device) :
    applyDrive m levels d = { d with lines := (applyDrive m levels d).lines } := by
  unfold applyDrive Device.mapLines; rfl

/-- Settles O16. -/
theorem driveSetsOutputLines : Obligations.DriveSetsOutputLines := fun m levels d =>
  ⟨driven_applyDrive m levels d, applyDrive_frame m levels d⟩

/-! ## The bytes of a completion -/

@[simp] theorem length_leBytes (n v : Nat) : (leBytes n v).length = n := by
  induction n generalizing v with
  | zero => rfl
  | succ n ih => simp [leBytes, ih]

/-- A number that fits its bytes is read back from them (12, opening paragraph). -/
theorem leNat_leBytes {n v : Nat} (h : v < 256 ^ n) : leNat (leBytes n v) = v := by
  induction n generalizing v with
  | zero => simp [leBytes, leNat]; omega
  | succ n ih =>
    have hv : v / 256 < 256 ^ n := by rw [Nat.div_lt_iff_lt_mul (by decide), ← pow_succ]; exact h
    simp only [leBytes, leNat, ih hv, BitVec.toNat_ofNat]
    omega

/-- A field at the front of a run of bytes holds the number written there. -/
theorem bytesAt_front {n v : Nat} (hv : v < 256 ^ n) (b : List Byte) : bytesAt (leBytes n v ++ b) 0 n = v := by
  rw [bytesAt, List.drop_zero, List.take_left' (length_leBytes n v), leNat_leBytes hv]

/-- A field behind others is found by their length. -/
theorem bytesAt_behind {a b : List Byte} {o n : Nat} (h : a.length ≤ o) :
    bytesAt (a ++ b) o n = bytesAt b (o - a.length) n := by
  rw [bytesAt, bytesAt, List.drop_append, List.drop_of_length_le h, List.nil_append]

/-- A run of bytes that is one field. -/
theorem bytesAt_whole {n v : Nat} (hv : v < 256 ^ n) : bytesAt (leBytes n v) 0 n = v := by
  simpa using bytesAt_front hv []

theorem sourceCode_lt (x : Source) : sourceCode x < 256 := by
  cases x with
  | stream n => simp only [sourceCode]; omega
  | control | device => decide

theorem statusCode_lt (x : Status) : statusCode x < 256 := by cases x <;> decide

/-- Settles O17: each field stands behind the bytes of those before it. -/
theorem completionBytesLayout : Obligations.CompletionBytesLayout := by
  intro phase c hline hhead
  have hflags : c.rising.toNat + 2 * c.frozen.toNat < 256 := by cases c.rising <;> cases c.frozen <;> decide
  have hphase : phase.toNat < 256 := by cases phase <;> decide
  have hline : c.line < 256 := by omega
  unfold completionBytes
  simp only [List.append_assoc]
  refine ⟨by simp, bytesAt_front hphase _, ?_⟩
  simp [bytesAt_behind, bytesAt_front, bytesAt_whole, sourceCode_lt, statusCode_lt, hflags, hline, hhead, c.kind.isLt,
    c.tag.isLt, c.time.isLt, c.x1.isLt, c.x2.isLt]

end Sys2Proof.Machine
end

section
/-! SUPPORT. The commands of the two clocks (chapter 1). -/

namespace Sys2Proof.Machine

/-! ## Ticks -/

/-- With nothing due now pending, no entry is due now in RUNNING. -/
theorem dueNow_of_calm {us : List Urgency} {d : Device} (h : calm true us d = true) : dueNow d = false := by
  have hnone := (calm_iff true us d).mp h
  simp only [urgent, Option.or_eq_none_iff, urgentInstant, Bool.true_and] at hnone
  simpa using hnone.2

/-- A tick that finds no entry due now (R1). -/
theorem advanceTime_of_free {d : Device} (h : dueNow d = false) :
    advanceTime d = d.modTb (fun t => { t with now := t.now + 1, divider := 0 }) := by
  simp [advanceTime, h]

theorem exec_tick (s : State) : exec .tick s =
    timeEvent (fun d => if d.isRunning then advanceTime (d.modTb fun t => { t with gap := 0 }) else d) s := rfl

/-- Settles O18. -/
theorem tickAdvancesDeviceTime : Obligations.TickAdvancesDeviceTime := by
  intro s ⟨hreset, hcalm⟩ hrun
  have hfree : dueNow (s.dev.modTb fun t => { t with gap := 0 }) = false := dueNow_of_calm (d := s.dev) hcalm
  rw [exec_tick, timeEvent_of_calm hreset hcalm, if_pos (isRunning_iff.mpr hrun), advanceTime_of_free hfree]
  rfl

/-! ## The reference clock -/

theorem exec_referenceEdge {s : State} (h : SettledNow s) :
    exec .referenceEdge s = .next { s with dev := referenceEdge s.dev } := timeEvent_of_calm h.1 h.2

/-- An edge with the reference present returns the gap count to 0 (R6). -/
theorem countEdge_of_present {d : Device} (h : d.tb.present = true) :
    countEdge d = d.modTb fun t => { t with gap := 0 } := if_pos h

/-- An edge with the reference absent and the qualification below its limit (R7). -/
theorem countEdge_of_absent {d : Device} (h : d.tb.present = false) (hq : d.tb.qual + 1 < 4096) :
    countEdge d = d.modTb fun t => { t with gap := 0, qual := t.qual + 1 } :=
  (if_neg (by simp [h])).trans (if_pos hq)

/-- The edge that completes the qualification (R7). -/
theorem countEdge_of_qualified {d : Device} (h : d.tb.present = false) (hq : 4096 ≤ d.tb.qual + 1) :
    countEdge d = qualify (d.modTb fun t => { t with gap := 0 }) :=
  (if_neg (by simp [h])).trans (if_neg (Nat.not_lt.mpr hq))

theorem referenceEdge_of_running {d : Device} (h : d.tb.mode = .running) :
    referenceEdge d = countDivider (countEdge d) := if_pos (isRunning_iff.mpr h)

theorem referenceEdge_of_not_running {d : Device} (h : d.tb.mode ≠ .running) : referenceEdge d = countEdge d :=
  if_neg (by rwa [isRunning_iff])

/-- What a completion of the timebase posted after a change of the timebase leaves (R8, R9). -/
theorem postTimebase_modTb (status : Status) (f : Timebase → Timebase) (d : Device) (hnow : (f d.tb).now = d.tb.now) :
    let d' := postTimebase status (d.modTb f)
    d' = { d with tb := d'.tb, holding := d'.holding, queues := d'.queues } ∧ d'.tb = f d.tb ∧
      Posted 0 (plainCompletion .device 0 status 0 d.tb.now 0 0 0 0) d d' := by
  have hframe := post_frame 0 (plainCompletion .device 0 status 0 d.tb.now 0 0 0 0) (d.modTb f)
  have hposted := posted_post 0 (plainCompletion .device 0 status 0 d.tb.now 0 0 0 0) (d.modTb f)
  have hpost : postTimebase status (d.modTb f) = post 0 (plainCompletion .device 0 status 0 d.tb.now 0 0 0 0) (d.modTb f) := by
    rw [← hnow]; rfl
  dsimp only
  rw [hpost]
  refine ⟨by rw [hframe]; rfl, by rw [hframe]; rfl, ?_⟩
  unfold Posted at *
  rw [Device.modTb_tb, hnow] at hposted
  exact hposted

/-- The entry into RUNNING of a LOST timebase whose reference is back (R9). -/
theorem qualify_of_lost {d : Device} (h : d.tb.mode = .lost) :
    qualify (d.modTb fun t => { t with gap := 0 }) = postTimebase .refRestored
      (d.modTb fun t => { t with gap := 0, qual := 4096, present := true, mode := .running, divider := 0 }) := by
  rw [qualify_eq, Device.modTb_tb, if_pos h]; rfl

theorem qualify_of_not_lost {d : Device} (h : d.tb.mode ≠ .lost) :
    qualify (d.modTb fun t => { t with gap := 0 }) =
      d.modTb fun t => { t with gap := 0, qual := 4096, present := true } := by
  rw [qualify_eq, Device.modTb_tb, if_neg h]; rfl

/-- Settles O19. -/
theorem referenceEdgeCounts : Obligations.ReferenceEdgeCounts := by
  intro s hs
  rw [exec_referenceEdge hs]
  refine ⟨fun hr hp hd => ?_, fun hr hp hd => ?_, fun hr hp => ?_, fun hr hp hq => ?_, fun hm hp hq => ?_,
    fun hm hp hq => ?_⟩
  · rw [referenceEdge_of_running hr, countEdge_of_present hp, countDivider, if_pos (by exact hd)]; rfl
  · have hfree : dueNow (s.dev.modTb fun t => { t with gap := 0 }) = false := dueNow_of_calm (d := s.dev) hs.2
    rw [referenceEdge_of_running hr, countEdge_of_present hp, countDivider, if_neg (by exact Nat.not_lt.mpr hd.ge),
      advanceTime_of_free hfree]
    rfl
  · rw [referenceEdge_of_not_running hr, countEdge_of_present hp]; rfl
  · rw [referenceEdge_of_not_running hr, countEdge_of_absent hp hq]; rfl
  · rw [referenceEdge_of_not_running (by simp [hm]), countEdge_of_qualified hp hq, qualify_of_not_lost (by simp [hm])]; rfl
  · rw [referenceEdge_of_not_running (by simp [hm]), countEdge_of_qualified hp hq, qualify_of_lost hm]
    exact ⟨_, rfl, rfl, postTimebase_modTb _ _ _ rfl⟩

theorem exec_refGap (s : State) : exec .refGap s = timeEvent takeGap s := rfl

theorem exec_refQualified (s : State) : exec .refQualified s =
    event (fun d => if d.tb.present then d else qualify (d.modTb fun t => { t with gap := 0 })) s := rfl

/-- Settles O20. -/
theorem referenceIsLostAndRestored : Obligations.ReferenceIsLostAndRestored := by
  refine ⟨fun s ⟨hreset, hcalm⟩ => ?_, fun s ⟨hreset, hcalm⟩ hp => ?_⟩
  · rw [exec_refGap, timeEvent_of_calm hreset hcalm, takeGap_eq]
    refine ⟨fun hp hm => ?_, fun h => ?_⟩
    · rw [if_pos ⟨hp, hm⟩]
      exact ⟨_, rfl, rfl, postTimebase_modTb _ _ _ rfl⟩
    · rw [if_neg (by rintro ⟨hp, hm⟩; rcases h with h | h <;> simp_all)]
      rfl
  · rw [exec_refQualified, event_of_calm hreset hcalm, if_neg (by simp [hp])]
    refine ⟨fun hm => ?_, fun hm => ?_⟩
    · rw [qualify_of_lost hm]
      exact ⟨_, rfl, rfl, postTimebase_modTb _ _ _ rfl⟩
    · rw [qualify_of_not_lost hm]; rfl

end Sys2Proof.Machine
end

section
/-! SUPPORT. What the registers of the window read (10.1, 12.11), and the TIME_HI latch (R13). -/

namespace Sys2Proof.Machine

/-! ## Sets of bits in a word -/

/-- The bits of a word built by setting one bit for each element of a list. -/
theorem getLsbD_foldl_or {α : Type} {w : Nat} (f : α → BitVec w) (l : List α) (acc : BitVec w) (i : Nat) :
    (l.foldl (fun v x => v ||| f x) acc).getLsbD i = true ↔
      acc.getLsbD i = true ∨ ∃ x ∈ l, (f x).getLsbD i = true := by
  induction l generalizing acc with
  | nil => simp
  | cons x l ih => simp [ih, or_assoc]

/-- The word of a set of streams, a bit for each (R166). -/
theorem getLsbD_streamBit (m : StreamId) (i : Nat) : (BitVec.ofNat 32 (2 ^ m.val)).getLsbD i = true ↔ i = m.val := by
  have hm := m.isLt
  rw [BitVec.getLsbD_ofNat, Nat.testBit_two_pow]
  simp only [Bool.and_eq_true, decide_eq_true_eq]
  omega

theorem mem_allStreams (n : StreamId) : n ∈ allStreams := by
  revert n; decide

/-- A bit of STREAM_ACTIVE (R117, R166). -/
theorem getLsbD_readStreamActive (d : Device) (i : Nat) :
    (readStreamActive d).getLsbD i = true ↔ ∃ n : StreamId, (d.stream n).state ≠ .idle ∧ i = n.val := by
  simp only [readStreamActive, getLsbD_foldl_or, getLsbD_streamBit, List.mem_filter, mem_allStreams]
  simp

/-- STREAM_ACTIVE has fields in bits 7 to 0 alone (12.11). -/
theorem readStreamActive_unused (d : Device) : readStreamActive d &&& ~~~0xFF#32 = 0 := by
  refine BitVec.eq_of_getLsbD_eq fun i hi => ?_
  rw [BitVec.getLsbD_and, Bool.eq_iff_iff, Bool.and_eq_true, getLsbD_readStreamActive]
  constructor
  · rintro ⟨⟨n, _, rfl⟩, hbit⟩
    have low : ∀ n : StreamId, (~~~0xFF#32).getLsbD n.val ≠ true := by decide
    exact absurd hbit (low n)
  · simp

/-! ## STATUS -/

/-- STATUS as a word of its four fields (12.11). -/
def statusWord (mode : DeviceMode) (quiet : Bool) (tb : TbMode) (present : Bool) : W32 :=
  BitVec.ofNat 32 (deviceModeCode mode + 16 * quiet.toNat + 256 * tbModeCode tb + 4096 * present.toNat)

/-- The fields of STATUS, each at its place, and 0 in every other bit (12.11). -/
theorem statusWord_fields (mode : DeviceMode) (quiet : Bool) (tb : TbMode) (present : Bool) :
    (statusWord mode quiet tb present).extractLsb' 0 3 = BitVec.ofNat 3 (deviceModeCode mode) ∧
    (statusWord mode quiet tb present).getLsbD 4 = quiet ∧
    (statusWord mode quiet tb present).extractLsb' 8 2 = BitVec.ofNat 2 (tbModeCode tb) ∧
    (statusWord mode quiet tb present).getLsbD 12 = present ∧
    statusWord mode quiet tb present &&& ~~~0x1317#32 = 0 := by
  cases mode <;> cases quiet <;> cases tb <;> cases present <;> decide

theorem readStatus_eq (d : Device) : readStatus d = statusWord d.ctl.mode (quiet d) d.tb.mode d.tb.present := rfl

/-- The QUIET flag: no read and no write is orphaned (R156). -/
theorem quiet_iff (d : Device) :
    quiet d = true ↔ (∀ x ∈ d.reads, x.orphaned = false) ∧ ∀ x ∈ d.writes, x.orphaned = false := by
  simp [quiet]

/-! ## The window -/

/-- An offset that names no register reads 0 (R164). -/
theorem readRegister_of_unmapped {d : Device} {o : Nat}
    (h : o ∉ [0x00, 0x04, 0x08, 0x0C, 0x10, 0x20, 0x24, 0x28, 0x2C, 0x30]) : readRegister d o = 0 := by
  unfold readRegister
  split
  · rfl
  · split <;> simp_all

/-- An access of another size, or at an offset that names no register, reads 0 (R164). -/
theorem readWindow_of_unmapped {d : Device} {o size : Nat}
    (h : size ≠ 4 ∨ o ∉ [0x00, 0x04, 0x08, 0x0C, 0x10, 0x20, 0x24, 0x28, 0x2C, 0x30]) : readWindow d o size = 0 := by
  unfold readWindow
  split
  · next hword => exact readRegister_of_unmapped (h.resolve_left fun hs => hs hword.1)
  · rfl

/-- The aligned 32-bit access at an offset reads its register (R164). -/
theorem readWindow_of_aligned (d : Device) {o : Nat} (h : o % 4 = 0) : readWindow d o 4 = readRegister d o :=
  if_pos ⟨rfl, h⟩

/-- With RESET_N high the registers read their values (12.11). -/
theorem readRegister_of_high {d : Device} (h : d.host.resetN = true) :
    readRegister d 0x00 = 0x32080001#32 ∧ readRegister d 0x04 = readControl d ∧ readRegister d 0x08 = readStatus d ∧
    readRegister d 0x0C = d.host.bootAddr.extractLsb' 0 32 ∧ readRegister d 0x10 = d.host.bootAddr.extractLsb' 32 32 ∧
    readRegister d 0x20 = readStreamActive d ∧ readRegister d 0x24 = d.host.event ∧
    readRegister d 0x28 = d.host.eventMask ∧ readRegister d 0x2C = d.tb.now.extractLsb' 0 32 ∧
    readRegister d 0x30 = d.tb.timeHi.zeroExtend 32 := by
  simp [readRegister, h, Config.idValue]

theorem readControl_eq (d : Device) :
    readControl d = if d.ctl.mode = .loading ∨ d.ctl.mode = .on ∨ d.ctl.mode = .failed then 1 else 0 := by
  unfold readControl
  cases d.ctl.mode <;> rfl

/-! ## TIME_LO_READ -/

theorem exec_timeLoRead (s : State) : exec .timeLoRead s =
    .next { s with
      dev := if s.dev.host.resetN then readTimeLo s.dev else s.dev.modHost fun h => { h with readData := 0 } } := rfl

/-- Settles O21. -/
theorem timeLoReadLatchesHighHalf : Obligations.TimeLoReadLatchesHighHalf := by
  intro s
  refine ⟨fun hhigh => ?_, fun hlow => ?_, fun hhigh => ?_⟩
  · have hlatched : (readTimeLo s.dev).host.resetN = true := hhigh
    rw [exec_timeLoRead, if_pos hhigh]
    obtain ⟨-, -, -, -, -, -, -, -, hlo, -⟩ := readRegister_of_high hhigh
    obtain ⟨-, -, -, -, -, -, -, -, -, hhi⟩ := readRegister_of_high hlatched
    exact ⟨_, rfl, rfl, rfl, hlo.symm, hhi⟩
  · rw [exec_timeLoRead, if_neg (by simp [hlow])]; rfl
  · intro d get quietNow
    obtain ⟨hid, hcontrol, hstatus, hbootLo, hbootHi, hactive, hevent, hmask, hlo, hhi⟩ := readRegister_of_high (d := d) hhigh
    obtain ⟨hmode, hquiet, htb, hpresent, hunused⟩ := statusWord_fields d.ctl.mode (quiet d) d.tb.mode d.tb.present
    simp only [get, readWindow_of_aligned, Nat.reduceMod, hid, hcontrol, hstatus, hbootLo, hbootHi, hactive, hevent,
      hmask, hlo, hhi, readStatus_eq, hmode, hquiet, htb, hpresent, hunused, readControl_eq, readStreamActive_unused,
      quiet_iff, getLsbD_readStreamActive]
    refine ⟨fun o size => readWindow_of_unmapped, trivial, trivial, ?_, Iff.rfl, ?_, trivial, trivial, trivial, trivial,
      fun n => ?_, trivial, trivial, trivial, trivial, trivial⟩
    · cases d.ctl.mode <;> rfl
    · cases d.tb.mode <;> rfl
    · simp [Fin.val_inj]

end Sys2Proof.Machine
end

section
/-! SUPPORT. The expiries of calendar entries (2.4, 5.3, 5.5, 6.4): what one expiry makes of its instant, and what each
kind of entry does. -/

namespace Sys2Proof.Machine

/-! ## Posts, whatever else differs -/

/-- What a post finds and leaves lies in holding buffer, queues and device time. -/
theorem Posted.congr {q : CqId} {c : Completion} {d e d' e' : Device} (h : Posted q c e e')
    (hholding : e.holding = d.holding) (hqueues : e.queues = d.queues) (hnow : e.tb.now = d.tb.now)
    (hholding' : e'.holding = d'.holding) (hqueues' : e'.queues = d'.queues) : Posted q c d d' := by
  unfold Posted Device.queue at *
  rwa [hholding, hqueues, hnow, hholding', hqueues'] at h

theorem PostedIf.congr {b : Bool} {q : CqId} {c : Completion} {d e d' e' : Device} (h : PostedIf b q c e e')
    (hholding : e.holding = d.holding) (hqueues : e.queues = d.queues) (hnow : e.tb.now = d.tb.now)
    (hholding' : e'.holding = d'.holding) (hqueues' : e'.queues = d'.queues) : PostedIf b q c d d' := by
  cases b
  · exact ⟨hholding' ▸ hholding ▸ h.1, hqueues' ▸ hqueues ▸ h.2⟩
  · exact Posted.congr h hholding hqueues hnow hholding' hqueues'

/-- A post that is owed is posted, and one that is not changes nothing. -/
theorem postedIf_ite (b : Bool) (q : CqId) (c : Completion) (d : Device) :
    PostedIf b q c d (if b then post q c d else d) := by
  unfold PostedIf
  cases b
  · exact ⟨rfl, rfl⟩
  · exact posted_post q c d

/-- A post that may be owed touches the holding buffer and the queue contexts alone. -/
theorem ite_post_frame (b : Bool) (q : CqId) (c : Completion) (d : Device) :
    (if b then post q c d else d) = { d with holding := (if b then post q c d else d).holding,
                                             queues := (if b then post q c d else d).queues } := by
  cases b
  · rfl
  · exact post_frame q c d

/-- The final completion of an entry is posted when it is owed, and with a late mark whatever it owes (R26). -/
theorem postFinal_eq (e : Entry) (normal : Status) (owed : Bool) (x1 x2 : W32) (d : Device) :
    postFinal e normal owed x1 x2 d =
      if owed || e.lateMark then post (d.stream e.stream).target (finalCompletion e normal x1 x2 d) d else d := by
  unfold postFinal postStream finalCompletion plainCompletion streamCompletion
  cases e.lateMark <;> cases owed <;> rfl

/-! ## The instant -/

/-- The end of an expiry touches the fields of the open instant and the lines alone (R24, R25). -/
theorem continueInstant_frame (d : Device) : continueInstant d = WithInstant d (continueInstant d) := by
  unfold continueInstant
  split
  · rfl
  · unfold flushDrives
    rw [applyDrive_frame]
    rfl

/-- An expiry that has staged its drive lets the instant go on, or ends it with every drive of the instant (R24, R25). -/
theorem instantGoesOn_continueInstant {m levels : Mask} {d x : Device} (hrun : d.tb.mode = .running) (htb : x.tb = d.tb)
    (hmask : x.stagedMask = d.stagedMask ||| m)
    (hlevels : x.stagedLevels = (d.stagedLevels &&& ~~~m) ||| (levels &&& m)) (hlines : x.lines = d.lines) :
    InstantGoesOn m levels d (continueInstant x) := by
  have hcalendar : (continueInstant x).calendar = x.calendar := by rw [continueInstant_frame]; rfl
  have hdue := dueNow_eq_false_iff (d := x) (htb ▸ hrun)
  rw [htb] at hdue
  unfold InstantGoesOn
  dsimp only
  rw [hcalendar, ← hmask, ← hlevels]
  refine ⟨fun ⟨y, hy, hnow⟩ => ?_, fun h => ?_⟩
  · have : dueNow x = true := by
      by_contra hfree
      exact hdue.mp (Bool.eq_false_of_not_eq_true hfree) y hy hnow
    unfold continueInstant
    rw [if_pos this]
    exact ⟨rfl, rfl, rfl, hlines⟩
  · unfold continueInstant
    rw [if_neg (by rw [hdue.mpr h]; exact Bool.false_ne_true)]
    refine ⟨rfl, rfl, rfl, ?_⟩
    have hdriven := driven_applyDrive x.stagedMask x.stagedLevels x
    unfold Driven Device.line at *
    rw [hlines] at hdriven
    exact hdriven

/-- The command of the kind of the entry at the head is that entry's expiry (R24). -/
theorem expire_of_atHead {s : State} {e : Entry} {rest : List Entry} {k : EntryKind} {x : Device} (h : AtHead s e rest)
    (hkind : e.kind = k) (hx : expireEntry e { s.dev with calendar := rest } = x) :
    expire k s = .next { s with dev := continueInstant x } := by
  subst hkind hx
  obtain ⟨⟨hreset, hcalm⟩, hrun, hlist, hdue⟩ := h
  have hdueNow : dueNow s.dev = true := by simp [dueNow, isRunning_iff.mpr hrun, hlist, hdue]
  have hexpiring : expiring s.dev = some e.kind := by simp [expiring, hlist, hdueNow]
  have hhead : expireHead s.dev = continueInstant (expireEntry e { s.dev with calendar := rest }) := by
    simp only [expireHead, hlist, hdueNow, if_true]
  unfold expire
  rw [act_of_high hreset, settle_of_calm hcalm, if_pos hexpiring, hhead]

/-- An entry that has driven `levels` on the lines of `m` and leaves the calendar `cal`, the reports `reps`: it may have
posted the completion `c`, when `b` holds. -/
theorem instant_of_posted {m levels : Mask} {cal : List Entry} {reps : List Report} {b : Bool} {q : CqId} {c : Completion}
    {d x : Device} (hrun : d.tb.mode = .running)
    (hx : x = { stageDrive m levels d with calendar := cal, reports := reps, holding := x.holding, queues := x.queues })
    (hposted : PostedIf b q c d x) :
    continueInstant x = WithInstant
      { d with
        calendar := cal, reports := reps, holding := (continueInstant x).holding, queues := (continueInstant x).queues }
      (continueInstant x) ∧
    InstantGoesOn m levels d (continueInstant x) ∧ PostedIf b q c d (continueInstant x) := by
  have hframe := continueInstant_frame x
  have hholding : x.holding = (continueInstant x).holding := by rw [hframe]; rfl
  have hqueues : x.queues = (continueInstant x).queues := by rw [hframe]; rfl
  refine ⟨?_, instantGoesOn_continueInstant hrun (by rw [hx]; rfl) (by rw [hx]; rfl) (by rw [hx]; rfl) (by rw [hx]; rfl),
    hposted.congr rfl rfl rfl hholding hqueues⟩
  rw [← hholding, ← hqueues]
  refine hframe.trans ?_
  generalize continueInstant x = y
  rw [hx]
  rfl

/-- A drive of no line leaves what is staged as it is. -/
theorem stageDrive_none (d : Device) : stageDrive 0 0 d = d := by
  have hlevels (v : Mask) : (v &&& ~~~0) ||| (0 &&& 0) = v := by
    rw [show ~~~(0 : Mask) = BitVec.allOnes 32 from rfl, BitVec.and_allOnes, BitVec.and_self]
    exact BitVec.or_zero
  have hmask (v : Mask) : v ||| 0 = v := BitVec.or_zero
  rw [stageDrive, hlevels, hmask]

/-- An entry that drives, posts its final completion when owed, and is freed. -/
theorem freed_postFinal_stageDrive (m levels : Mask) (e : Entry) (normal : Status) (owed : Bool) (x1 x2 : W32)
    (rest : List Entry) (d : Device) :
    let x := freed e (postFinal e normal owed x1 x2 (stageDrive m levels { d with calendar := rest }))
    x = { stageDrive m levels d with
          calendar := rest, reports := d.reports ++ [reportOf e], holding := x.holding, queues := x.queues } ∧
    PostedIf (owed || e.lateMark) (d.stream e.stream).target (finalCompletion e normal x1 x2 d) d x := by
  dsimp only
  rw [postFinal_eq]
  have hposted (v : Device) := postedIf_ite (owed || e.lateMark) (v.stream e.stream).target (finalCompletion e normal x1 x2 v) v
  refine ⟨?_, (hposted (stageDrive m levels { d with calendar := rest })).congr rfl rfl rfl rfl rfl⟩
  unfold freed
  rw [ite_post_frame]
  rfl

/-! ## SET -/

/-- Settles O22. -/
theorem setExpiryDrivesAndFrees : Obligations.SetExpiryDrivesAndFrees := by
  intro s e rest hsettled hrun hlist hdue hkind m v
  have hexec : exec .setExpiry s =
      .next { s with dev := continueInstant (expireSet e { s.dev with calendar := rest }) } :=
    expire_of_atHead ⟨hsettled, hrun, hlist, hdue⟩ hkind (by simp only [expireEntry, hkind])
  obtain ⟨hframe, hposted⟩ := freed_postFinal_stageDrive e.lines e.levels e .done e.notify 0 0 rest s.dev
  obtain ⟨hdev, ⟨hopen, hover⟩, hposted⟩ := instant_of_posted hrun hframe hposted
  have hcalendar : Device.calendar _ = rest := congrArg Device.calendar hdev
  refine ⟨_, hexec, rfl, ?_, fun y hy hnow => hopen ⟨y, ?_, hnow⟩, fun h => hover fun y hy => h y ?_, hposted⟩
  · rw [reportOf, hkind] at hdev
    exact hdev
  · rw [hcalendar]; exact hy
  · rwa [hcalendar] at hy

/-! ## PULSE -/

/-- An entry that drives and is re-inserted. -/
theorem instant_of_reinserted {m levels : Mask} {e' : Entry} {rest : List Entry} {d : Device}
    (hrun : d.tb.mode = .running) :
    let x := reinsert e' (stageDrive m levels { d with calendar := rest })
    continueInstant x = WithInstant { d with calendar := insertEntry d.tb.now e' rest } (continueInstant x) ∧
      InstantGoesOn m levels d (continueInstant x) :=
  ⟨continueInstant_frame _, instantGoesOn_continueInstant hrun rfl rfl rfl rfl⟩

/-- Settles O23. -/
theorem pulseExpiryDrivesBothPhases : Obligations.PulseExpiryDrivesBothPhases := by
  intro s e rest w hhead hkind
  have ⟨_, hrun, _, _⟩ := hhead
  have hexec : ∀ ph, e.phase = some ph → exec .pulseExpiry s =
      .next { s with dev := continueInstant (expirePulse e ph { s.dev with calendar := rest }) } := fun ph hph =>
    expire_of_atHead hhead hkind (by simp only [expireEntry, hkind, hph])
  refine ⟨fun hph _ _ => ⟨_, hexec _ hph, rfl, instant_of_reinserted hrun⟩, fun hph => ⟨_, hexec _ hph, rfl, ?_⟩⟩
  obtain ⟨hframe, hposted⟩ := freed_postFinal_stageDrive e.lines (~~~e.levels) e .done e.notify 0 0 rest s.dev
  have := instant_of_posted hrun hframe hposted
  rw [reportOf, hkind] at this
  exact this

/-! ## TRAIN -/

/-- Grid points that do not exhaust the train are all counted as missed, and its next point stands behind them (R29). -/
theorem passGrid_of_more {now : Time} {g : TrainPart} {m : Nat} (hm : gridPointsBehind now g = m)
    (h : g.remaining = 0 ∨ m < g.remaining) : gridExhausted now g = false ∧
      passGrid now g = { g with missed := g.missed + m, remaining := g.remaining - m } := by
  unfold gridExhausted passGrid
  rw [hm]
  constructor
  · rcases h with h | h
    · simp [h]
    · simp [Nat.not_le.mpr h]
  · dsimp only
    split
    · next h0 => simp [h0]
    · next h0 => rw [Nat.min_eq_left (h.resolve_left h0).le]

/-- Grid points that exhaust a finite train are counted as missed up to its count (R29). -/
theorem passGrid_of_exhausted {now : Time} {g : TrainPart} {m : Nat} (hm : gridPointsBehind now g = m)
    (h0 : g.remaining ≠ 0) (h : g.remaining ≤ m) : gridExhausted now g = true ∧
      passGrid now g = { g with missed := g.missed + g.remaining, remaining := g.remaining - m } := by
  unfold gridExhausted passGrid
  rw [hm]
  refine ⟨by simp [h0, h], ?_⟩
  dsimp only
  rw [if_neg h0, Nat.min_eq_right h]

/-- The grid point behind the missed ones (R29). -/
theorem gridPoint_of_missed (g : TrainPart) (m r : Nat) :
    gridPoint { g with missed := g.missed + m, remaining := r } = gridPointAt g m := by
  simp [gridPoint, gridPointAt, Nat.add_assoc]

/-- A train with a grid point left goes on there (R29, R37). -/
theorem resumeTrain_of_more {e : Entry} {ph : PhasePart} {g : TrainPart} {d : Device} {m : Nat}
    (hm : gridPointsBehind d.tb.now g = m) (h : g.remaining = 0 ∨ m < g.remaining) :
    resumeTrain e ph g d = reinsert
      { e with
        due := gridPointAt g m, phase := some { ph with phase := .start },
        train := some { g with missed := g.missed + m, remaining := g.remaining - m } } d := by
  obtain ⟨hexhausted, hpass⟩ := passGrid_of_more hm h
  unfold resumeTrain
  dsimp only
  rw [hpass, hexhausted, if_neg Bool.false_ne_true, gridPoint_of_missed]

/-- A finite train whose grid points are all behind is done (R29, R37). -/
theorem resumeTrain_of_exhausted {e : Entry} {ph : PhasePart} {g : TrainPart} {d : Device} {m : Nat}
    (hm : gridPointsBehind d.tb.now g = m) (h0 : g.remaining ≠ 0) (h : g.remaining ≤ m) :
    resumeTrain e ph g d =
      finishTrain e { g with missed := g.missed + g.remaining, remaining := g.remaining - m } d := by
  obtain ⟨hexhausted, hpass⟩ := passGrid_of_exhausted hm h0 h
  unfold resumeTrain
  dsimp only
  rw [hpass, hexhausted, if_pos rfl]

/-- Settles O24. -/
theorem trainPulsesOnItsGrid : Obligations.TrainPulsesOnItsGrid := by
  have hexec : ∀ {s : State} {e : Entry} {rest : List Entry} {ph : PhasePart} {g : TrainPart}, AtHead s e rest →
      e.kind = .train → e.phase = some ph → e.train = some g → exec .trainExpiry s =
        .next { s with dev := continueInstant (expireTrain e ph g { s.dev with calendar := rest }) } :=
    fun hhead hkind hph hg => expire_of_atHead hhead hkind (by simp only [expireEntry, hkind, hph, hg])
  refine ⟨fun s e rest w g hhead hkind hph hg _ _ => ⟨_, hexec hhead hkind hph hg, rfl,
    instant_of_reinserted hhead.2.1⟩, fun s e rest w back m g hhead hkind hph hg hpoints => ?_⟩
  have ⟨_, hrun, _, _⟩ := hhead
  have hbehind : gridPointsBehind (stageDrive e.lines (~~~e.levels) { s.dev with calendar := rest }).tb.now
      { g with remaining := g.remaining - 1 } = m := gridPointsBehind_of hpoints
  intro finished
  have hfinished : ∀ (t : TrainPart) (missed : Nat), t.driven = g.driven → t.missed = missed →
      expireTrain e ⟨.ending, w⟩ g { s.dev with calendar := rest } =
        finishTrain e t (stageDrive e.lines (~~~e.levels) { s.dev with calendar := rest }) → finished missed := by
    intro t missed ht hmissed hexpire
    refine ⟨_, hexec hhead hkind hph hg, rfl, ?_⟩
    dsimp only
    rw [hexpire, finishTrain, ht, hmissed]
    obtain ⟨hframe, hposted⟩ := freed_postFinal_stageDrive e.lines (~~~e.levels) e .done e.notify (sat32 g.driven)
      (sat32 missed) rest s.dev
    have := instant_of_posted hrun hframe hposted
    rw [reportOf, hkind] at this
    exact this
  have hresume : g.remaining ≠ 1 → expireTrain e ⟨.ending, w⟩ g { s.dev with calendar := rest } =
      resumeTrain e ⟨.ending, w⟩ { g with remaining := g.remaining - 1 }
        (stageDrive e.lines (~~~e.levels) { s.dev with calendar := rest }) := fun h => if_neg h
  refine ⟨fun h1 => ?_, fun h1 hm => ?_, fun hmore => ?_⟩
  · exact hfinished { g with remaining := 0 } _ rfl rfl (if_pos h1)
  · refine hfinished { g with missed := g.missed + (g.remaining - 1), remaining := g.remaining - 1 - m } _ rfl rfl ?_
    rw [hresume (by omega), resumeTrain_of_exhausted hbehind (Nat.sub_ne_zero_of_lt h1) hm]
  · refine ⟨_, hexec hhead hkind hph hg, rfl, ?_⟩
    dsimp only
    rw [hresume (by omega), resumeTrain_of_more hbehind (by dsimp only; omega)]
    exact instant_of_reinserted hrun

/-! ## MARKER -/

/-- Settles O25. -/
theorem markerPostsAndFrees : Obligations.MarkerPostsAndFrees := by
  intro s e rest hhead hkind
  have ⟨_, hrun, _, _⟩ := hhead
  have hexec : exec .markerReached s =
      .next { s with dev := continueInstant (expireMarker e { s.dev with calendar := rest }) } :=
    expire_of_atHead hhead hkind (by simp only [expireEntry, hkind])
  obtain ⟨hframe, hposted⟩ := freed_postFinal_stageDrive 0 0 e .markerReached true 0 0 rest s.dev
  have := instant_of_posted hrun hframe hposted
  rw [stageDrive_none, reportOf, hkind] at this
  exact ⟨_, hexec, rfl, this⟩

end Sys2Proof.Machine
end

section
/-! SUPPORT. The expiries of pattern entries (6.4), of the end entries of captures (5.3) and of the deadlines of arm waits
(5.5). -/

namespace Sys2Proof.Machine

/-! ## What the end of an expiry leaves -/

theorem continueInstant_players (d : Device) : (continueInstant d).players = d.players := by
  rw [continueInstant_frame]; rfl
theorem continueInstant_streams (d : Device) : (continueInstant d).streams = d.streams := by
  rw [continueInstant_frame]; rfl
theorem continueInstant_holding (d : Device) : (continueInstant d).holding = d.holding := by
  rw [continueInstant_frame]; rfl
theorem continueInstant_queues (d : Device) : (continueInstant d).queues = d.queues := by
  rw [continueInstant_frame]; rfl
theorem continueInstant_player (d : Device) (p : PlayerId) : (continueInstant d).player p = d.player p :=
  congrArg (·.get p) (continueInstant_players d)

@[simp] theorem reinsert_player (e : Entry) (d : Device) (p : PlayerId) : (reinsert e d).player p = d.player p := rfl
@[simp] theorem stageDrive_player (m levels : Mask) (d : Device) (p : PlayerId) :
    (stageDrive m levels d).player p = d.player p := rfl
@[simp] theorem freed_player (e : Entry) (d : Device) (p : PlayerId) : (freed e d).player p = d.player p := rfl

/-! ## The level set of a step (12.5) -/

/-- The places of a list in ascending order: each element stands behind those smaller than it. -/
theorem mem_zipIdx_of_ascending {xs : List LineId} (h : xs.Pairwise (· < ·)) (i : Nat) (l : LineId) (k : Nat) :
    (l, k) ∈ xs.zipIdx i ↔ l ∈ xs ∧ k = i + (xs.filter (fun j => decide (j < l))).length := by
  induction xs generalizing i with
  | nil => simp
  | cons x xs ih =>
    obtain ⟨hx, hxs⟩ := List.pairwise_cons.mp h
    rw [List.zipIdx_cons, List.mem_cons, ih hxs, List.mem_cons, Prod.mk.injEq]
    by_cases hl : l = x
    · subst hl
      have hnone : xs.filter (fun j => decide (j < l)) = [] := by
        simp only [List.filter_eq_nil_iff, decide_eq_true_eq]
        exact fun j hj => (hx j hj).asymm
      have hout : l ∉ xs := fun hm => absurd (hx l hm) (lt_irrefl l)
      simp [hnone, hout]
    · simp only [hl, false_and, false_or]
      refine and_congr_right fun hm => ?_
      rw [List.filter_cons_of_pos (by simpa using hx l hm), List.length_cons]
      omega

theorem mem_allLines (l : LineId) : l ∈ allLines := by
  revert l; decide

/-- The lines are listed in ascending order. -/
theorem pairwise_allLines : allLines.Pairwise (· < ·) := by decide

theorem getLsbD_lineBit (j l : LineId) : (lineBit j).getLsbD l.val = true ↔ j = l := by
  have hl := l.isLt
  rw [lineBit, BitVec.getLsbD_ofNat, Nat.testBit_two_pow]
  simp only [Bool.and_eq_true, decide_eq_true_eq, Fin.ext_iff]
  omega

/-- The k-th lowest line of a pattern takes bit k of a step (12.5). -/
theorem inMask_spreadLevels (m : Mask) (levels : BitVec 8) (l : LineId) : inMask (spreadLevels m levels) l =
    (inMask m l && levels.getLsbD (allLines.filter (fun j => inMask m j && decide (j < l))).length) := by
  have hcount : (linesOf m).filter (fun j => decide (j < l)) = allLines.filter (fun j => inMask m j && decide (j < l)) := by
    rw [linesOf, List.filter_filter]
    simp only [Bool.and_comm]
  have hplace (k : Nat) : (l, k) ∈ (linesOf m).zipIdx ↔
      inMask m l = true ∧ k = (allLines.filter (fun j => inMask m j && decide (j < l))).length := by
    have hascending : (linesOf m).Pairwise (· < ·) := pairwise_allLines.filter _
    rw [mem_zipIdx_of_ascending hascending, hcount, linesOf, List.mem_filter]
    simp [mem_allLines]
  rw [Bool.eq_iff_iff, Bool.and_eq_true, inMask, spreadLevels, getLsbD_foldl_or]
  constructor
  · rintro (h | ⟨⟨j, k⟩, hmem, hbit⟩)
    · simp at h
    · obtain ⟨hmem, hlevel⟩ := List.mem_filter.mp hmem
      obtain rfl := (getLsbD_lineBit j l).mp hbit
      obtain ⟨hin, rfl⟩ := (hplace k).mp hmem
      exact ⟨hin, hlevel⟩
  · rintro ⟨hin, hlevel⟩
    exact .inr ⟨(l, _), List.mem_filter.mpr ⟨(hplace _).mpr ⟨hin, rfl⟩, hlevel⟩, (getLsbD_lineBit l l).mpr rfl⟩

/-- Two level sets that agree line by line are one. -/
theorem mask_ext {m m' : Mask} (h : ∀ l, inMask m l = inMask m' l) : m = m' :=
  BitVec.eq_of_getLsbD_eq fun i hi => h ⟨i, hi⟩

/-! ## PATTERN_STEP -/

/-- The expiry of a pattern's entry is handed to its player (R31). -/
theorem exec_patternStepExpiry {s : State} {e : Entry} {rest : List Entry} {p : PlayerId} {x : Device}
    (h : AtHead s e rest) (hkind : e.kind = .patternStep) (hplayer : e.player = some p)
    (hx : expirePattern e p { s.dev with calendar := rest } = x) :
    exec .patternStepExpiry s = .next { s with dev := continueInstant x } :=
  expire_of_atHead h hkind (by simp only [expireEntry, hkind, hplayer, hx])

/-- Settles O26. -/
theorem patternStepIsApplied : Obligations.PatternStepIsApplied := by
  intro s e rest p st more hhead hkind hplayer hstep hbuffer _ _ pl levels hlevels completed pl'
  have ⟨_, hrun, _, _⟩ := hhead
  have hspread : spreadLevels pl.lines st.levels = levels :=
    mask_ext fun l => (inMask_spreadLevels pl.lines st.levels l).trans (hlevels l).symm
  let e' : Entry := { e with due := s.dev.tb.now + BitVec.ofNat 48 st.hold }
  let x := refillTest p (reinsert e' ((stageDrive pl.lines levels { s.dev with calendar := rest }).modPlayer p fun _ => pl'))
  have hexpire : expirePattern e p { s.dev with calendar := rest } = x := by
    have hstep' : ({ s.dev with calendar := rest } : Device).player p = pl := rfl
    unfold expirePattern
    dsimp only
    rw [hstep', if_neg (by rw [show pl.nextEnd = false from hstep]; exact Bool.false_ne_true),
      show pl.buffer = st :: more from hbuffer]
    dsimp only
    rw [hspread]
    rfl
  have hself : x.player p = if pl.request = .idle ∧ pl.fetched = false ∧ more.length ≤ 8
      then { pl' with request := .pending, asked := min 8 (pl.steps - pl.cursor) } else pl' := by
    have hwanted : refillWanted pl' = true ↔ pl.request = .idle ∧ pl.fetched = false ∧ more.length ≤ 8 := by
      simp [refillWanted, hasPattern, pl', and_assoc]
    simp only [x, refillTest, Device.modPlayer_player_self, reinsert_player, hwanted]
    rfl
  have hother : ∀ q, q ≠ p → x.player q = s.dev.player q := by
    intro q hq
    simp only [x, refillTest, Device.modPlayer_player_other _ _ _ _ hq, reinsert_player, stageDrive_player]
    rfl
  refine ⟨_, exec_patternStepExpiry hhead hkind hplayer hexpire, rfl, ?_⟩
  refine ⟨?_, instantGoesOn_continueInstant hrun rfl rfl rfl rfl, fun q hq => ?_, ?_⟩
  · rw [continueInstant_players]
    exact continueInstant_frame x
  · rw [continueInstant_player, hother q hq]
  · rw [continueInstant_player, hself]

/-- What the freeing of a pattern's entry leaves, once it has driven and posted, its player in the state that `f` gives. -/
theorem instant_of_player {e : Entry} {rest : List Entry} {p : PlayerId} {m levels : Mask} {d u d' : Device}
    (f : Player → Player) (hrun : d.tb.mode = .running)
    (hu : u = { stageDrive m levels d with calendar := rest, holding := u.holding, queues := u.queues })
    (hd' : d' = continueInstant (freed e (u.modPlayer p f))) :
    d' = WithInstant { d with
      calendar := rest, reports := d.reports ++ [reportOf e],
      players := d'.players, holding := d'.holding, queues := d'.queues } d' ∧
    InstantGoesOn m levels d d' ∧ d'.player p = f (d.player p) ∧ ∀ k, k ≠ p → d'.player k = d.player k := by
  have huPlayer (k : PlayerId) : u.player k = d.player k := by rw [hu]; rfl
  have hplayer (k : PlayerId) : d'.player k = (u.modPlayer p f).player k := by
    rw [hd', continueInstant_player, freed_player]
  have hgoes : InstantGoesOn m levels d d' := by
    rw [hd']
    exact instantGoesOn_continueInstant hrun (by rw [hu]; rfl) (by rw [hu]; rfl) (by rw [hu]; rfl) (by rw [hu]; rfl)
  refine ⟨?_, hgoes, ?_, fun k hk => ?_⟩
  · have hframe := continueInstant_frame (freed e (u.modPlayer p f))
    have hplayers := continueInstant_players (freed e (u.modPlayer p f))
    have hholding := continueInstant_holding (freed e (u.modPlayer p f))
    have hqueues := continueInstant_queues (freed e (u.modPlayer p f))
    rw [← hd'] at hframe hplayers hholding hqueues
    rw [hplayers, hholding, hqueues]
    refine hframe.trans ?_
    generalize d' = y
    rw [hu]
    rfl
  · rw [hplayer, Device.modPlayer_player_self, huPlayer]
  · rw [hplayer, Device.modPlayer_player_other _ _ _ _ hk, huPlayer]

/-- A pattern's entry that drives, posts what its player owes, gives its player the state that `f` leaves, and is freed. -/
theorem instant_of_pattern {s : State} {e : Entry} {rest : List Entry} {p : PlayerId} (hrun : s.dev.tb.mode = .running)
    (m levels : Mask) (b : Bool) (q : CqId) (c : Completion) (f : Player → Player) :
    let v := stageDrive m levels { s.dev with calendar := rest }
    let d' := continueInstant (freed e ((if b then post q c v else v).modPlayer p f))
    d' = WithInstant { s.dev with
      calendar := rest, reports := s.dev.reports ++ [reportOf e],
      players := d'.players, holding := d'.holding, queues := d'.queues } d' ∧
    InstantGoesOn m levels s.dev d' ∧ d'.player p = f (s.dev.player p) ∧
    (∀ k, k ≠ p → d'.player k = s.dev.player k) ∧ PostedIf b q c s.dev d' := by
  intro v d'
  obtain ⟨hframe, hgoes, hself, hother⟩ := instant_of_player (p := p) f hrun (ite_post_frame b q c v)
    (rfl : d' = continueInstant (freed e _))
  let x := freed e ((if b then post q c v else v).modPlayer p f)
  exact ⟨hframe, hgoes, hself, hother, (postedIf_ite b q c v).congr rfl rfl rfl (continueInstant_holding x).symm
    (continueInstant_queues x).symm⟩

/-- The END expiry of a pattern (R109). -/
theorem expirePattern_of_end {e : Entry} {p : PlayerId} {d : Device} (h : (d.player p).nextEnd = true) :
    let pl := d.player p
    let v := stageDrive pl.lines pl.rest d
    expirePattern e p d = freed e (Device.modPlayer (if e.notify || e.lateMark then
      post (d.stream e.stream).target (plainCompletion (.stream e.stream) 0x06 (if e.lateMark then .lateDone else .done)
        pl.tag d.tb.now (lowestLine pl.lines) (d.stream e.stream).head (sat32 pl.applied) (sat32 pl.completed)) v
      else v) p fun _ => Player.reset) := by
  unfold expirePattern
  dsimp only
  rw [if_pos h]
  cases e.lateMark <;> cases e.notify <;> rfl

/-- The underrun of a pattern (R110). -/
theorem expirePattern_of_underrun {e : Entry} {p : PlayerId} {d : Device} (h : (d.player p).nextEnd = false)
    (hbuffer : (d.player p).buffer = []) :
    let pl := d.player p
    let v := stageDrive pl.lines pl.rest d
    expirePattern e p d = freed e (Device.modPlayer (if true then
      post (d.stream e.stream).target (plainCompletion (.stream e.stream) 0x06 .underrun
        pl.tag d.tb.now (lowestLine pl.lines) (d.stream e.stream).head (sat32 pl.applied) (sat32 pl.completed)) v
      else v) p endedPlayer) := by
  unfold expirePattern
  dsimp only
  rw [h, if_neg Bool.false_ne_true, hbuffer]
  rfl

/-- Settles O27. -/
theorem patternEndsOrUnderruns : Obligations.PatternEndsOrUnderruns := by
  intro s e rest p hhead hkind hplayer pl ends
  have ⟨_, hrun, _, _⟩ := hhead
  have hreport : reportOf e = ⟨.patternStep, e.stream, e.tag, e.lines⟩ := by rw [reportOf, hkind]
  have hunderrun : ∀ after, pl.nextEnd = false → pl.buffer = [] → endedPlayer pl = after → ends after true .underrun := by
    intro after hstep hbuffer hafter
    refine ⟨_, exec_patternStepExpiry hhead hkind hplayer (expirePattern_of_underrun hstep hbuffer), rfl, ?_⟩
    rw [← hreport, ← hafter]
    exact instant_of_pattern hrun ..
  refine ⟨fun hend => ?_, fun hstep hbuffer hrequest => ?_, fun hstep hbuffer k hrequest => ?_⟩
  · refine ⟨_, exec_patternStepExpiry hhead hkind hplayer (expirePattern_of_end hend), rfl, ?_⟩
    rw [← hreport]
    exact instant_of_pattern hrun ..
  · refine hunderrun _ hstep hbuffer ?_
    unfold endedPlayer
    rcases hrequest with h | h <;> rw [h]
  · refine hunderrun _ hstep hbuffer ?_
    unfold endedPlayer
    rw [hrequest]

/-! ## CAPTURE_END -/

/-- A removal that finds no entry changes nothing (R20). -/
theorem removeEntries_of_none {p : Entry → Bool} {d : Device} (h : ∀ e ∈ d.calendar, p e = false) :
    removeEntries p d = d := by
  have hkept : d.calendar.filter (fun e => !p e) = d.calendar := List.filter_eq_self.mpr fun e he => by simp [h e he]
  have hgone : d.calendar.filter p = [] := List.filter_eq_nil_iff.mpr fun e he => by simp [h e he]
  unfold removeEntries
  rw [hkept, hgone]
  simp

/-- The end of a capture whose end entry has left the list (R88, R89). -/
theorem endCapture_of_no_entry {l : LineId} {c : Capture} {d : Device} (hc : (d.line l).capture = some c)
    (h : ∀ e ∈ d.calendar, isEndEntryOf l e = false) :
    let v := d.modLine l fun x => { x with capture := none }
    endCapture l d = if c.notify then post (d.stream c.stream).target (plainCompletion (.stream c.stream) 0x07 .captureDone
      c.tag d.tb.now l.val (d.stream c.stream).head (sat32 c.captured) (sat32 c.missed)) v else v := by
  unfold endCapture
  rw [hc]
  dsimp only
  rw [removeEntries_of_none (by exact h)]
  rfl

/-- What an entry leaves that drives nothing, may post a completion, and is freed. -/
theorem instant_of_freed {e : Entry} {u : Device} (b : Bool) (q : CqId) (c : Completion) (hrun : u.tb.mode = .running) :
    let d' := continueInstant (freed e (if b then post q c u else u))
    d' = WithInstant { u with reports := u.reports ++ [reportOf e], holding := d'.holding, queues := d'.queues } d' ∧
      InstantGoesOn 0 0 u d' ∧ PostedIf b q c u d' ∧ d'.streams = u.streams ∧
      d' = WithInstant
        { u with
          reports := u.reports ++ [reportOf e],
          streams := d'.streams, holding := d'.holding, queues := d'.queues } d' := by
  intro d'
  let x := freed e (if b then post q c u else u)
  have hx : x = { stageDrive 0 0 u with
      calendar := u.calendar, reports := u.reports ++ [reportOf e], holding := x.holding, queues := x.queues } := by
    rw [stageDrive_none]
    unfold x freed
    rw [ite_post_frame]
  obtain ⟨hframe, hgoes, hposted⟩ := instant_of_posted hrun hx ((postedIf_ite b q c u).congr rfl rfl rfl rfl rfl)
  have hstreams : d'.streams = u.streams := (continueInstant_streams x).trans (by rw [hx]; rfl)
  exact ⟨hframe, hgoes, hposted, hstreams, by rw [hstreams]; exact hframe⟩

/-! ## ARM_DEADLINE -/

@[simp] theorem Stream.refetched_target (threshold : Nat) (x : Stream) : (x.refetched threshold).target = x.target := by
  unfold Stream.refetched; split <;> rfl

@[simp] theorem Stream.consumed_target (threshold : Nat) (x : Stream) : (x.consumed threshold).target = x.target :=
  Stream.refetched_target ..

@[simp] theorem post_tb (q : CqId) (c : Completion) (d : Device) : (post q c d).tb = d.tb := by rw [post_frame]

/-- One stream's context changed and one completion posted when `b` holds: what else the part leaves as it was. -/
theorem answered_modStream (b : Bool) (q : CqId) (c : Completion) (n : StreamId) (f : Stream → Stream) (d : Device) :
    let v := d.modStream n f
    let d' := if b then post q c v else v
    d' = { d with streams := d'.streams, holding := d'.holding, queues := d'.queues } ∧
    OnlyStream n (f (d.stream n)) d d' ∧ PostedIf b q c d d' := by
  intro v d'
  have hframe : d' = { v with holding := d'.holding, queues := d'.queues } := ite_post_frame b q c v
  refine ⟨?_, fun m => ?_, (postedIf_ite b q c v).congr rfl rfl rfl rfl rfl⟩
  · rw [hframe]; rfl
  · have hstream : d'.stream m = v.stream m := by rw [hframe]; rfl
    rw [hstream, Device.modStream_stream]

/-- The ARM_TIMEOUT of an arm wait whose record has been consumed (R96). -/
def armTimeoutCompletion (n : StreamId) (w : ArmWait) (now : Time) (x : Stream) : Completion :=
  plainCompletion (.stream n) 0x08 .armTimeout w.tag now w.line.val x.head 0 (if w.haltOnTimeout then 1 else 0)

/-- The stream whose arm wait has timed out: its ARM is consumed, and it is halted or goes on from `now` (R96). -/
def Stream.afterTimeout (threshold : Nat) (halts : Bool) (now : Time) (x : Stream) : Stream :=
  let y := ({ x with armWait := none } : Stream).consumed threshold
  if halts then y.afterHalt else { y with anchor := now, state := .running, reason := .noWait }

/-- The timeout of an arm wait whose deadline has left the list (R96). -/
theorem timeoutArm_eq {n : StreamId} {w : ArmWait} {d : Device} (hw : (d.stream n).armWait = some w)
    (h : ∀ e ∈ d.calendar, isDeadlineOf n e = false) :
    let x := ({ d.stream n with armWait := none } : Stream).consumed d.threshold
    timeoutArm n d = post x.target (armTimeoutCompletion n w d.tb.now x)
      (d.modStream n (Stream.afterTimeout d.threshold w.haltOnTimeout d.tb.now)) := by
  intro x
  have hconsumed : consume n (d.modStream n fun y => { y with armWait := none }) =
      d.modStream n fun y => ({ y with armWait := none } : Stream).consumed d.threshold := by
    rw [consume_eq_modStream, Device.modStream_modStream]; rfl
  have hstream : (consume n (d.modStream n fun y => { y with armWait := none })).stream n = x := by
    rw [hconsumed, Device.modStream_stream_self]
  have hdeadline (f : Stream → Stream) : removeEntries (isDeadlineOf n) (d.modStream n f) = d.modStream n f :=
    removeEntries_of_none h
  have hpost : ∀ u : Device, u.stream n = x → u.tb = d.tb →
      postStream n 0x08 .armTimeout w.tag u.tb.now w.line.val 0 (if w.haltOnTimeout then 1 else 0) u =
        post x.target (armTimeoutCompletion n w d.tb.now x) u := by
    intro u hu htb
    unfold postStream streamCompletion
    rw [hu, htb]; rfl
  unfold timeoutArm
  rw [hw]
  dsimp only
  rw [show entryKindCode .armDeadline = 0x08 from rfl, hpost _ hstream (by rw [hconsumed]; rfl), hconsumed]
  unfold Stream.afterTimeout
  cases w.haltOnTimeout with
  | true =>
    dsimp only
    rw [if_pos rfl, post_haltStream, haltStream_eq, Device.modStream_modStream, hdeadline]
    rfl
  | false =>
    dsimp only
    rw [if_neg Bool.false_ne_true, setRunning, post_tb, post_modStream, post_modStream, Device.modStream_modStream,
      Device.modStream_modStream]
    rfl

/-- Settles O28. -/
theorem contextsEndAtTheirEntries : Obligations.ContextsEndAtTheirEntries := by
  refine ⟨?_, ?_⟩
  · intro s e rest l c hhead hkind hcontext hc hrest ended
    have ⟨_, hrun, _, _⟩ := hhead
    have hfree : ∀ y ∈ ({ s.dev with calendar := rest } : Device).calendar, isEndEntryOf l y = false := by
      intro y hy
      simpa [isEndEntryOf] using hrest y hy
    have hend := endCapture_of_no_entry (d := { s.dev with calendar := rest }) hc hfree
    refine ⟨_, expire_of_atHead hhead hkind (by simp only [expireEntry, hkind, expireCaptureEnd, hcontext]; rw [hend]),
      rfl, ?_⟩
    have hreport : reportOf e = ⟨.captureEnd, e.stream, e.tag, e.lines⟩ := by rw [reportOf, hkind]
    let u := ({ s.dev with calendar := rest } : Device).modLine l fun x => { x with capture := none }
    obtain ⟨hframe, hgoes, hposted, -, -⟩ := instant_of_freed (e := e) (u := u) c.notify _ _ hrun
    rw [← hreport]
    exact ⟨hframe, hgoes, hposted.congr rfl rfl rfl rfl rfl⟩
  · intro s e rest w hhead hkind hw hrest x
    have ⟨_, hrun, _, _⟩ := hhead
    have hfree : ∀ y ∈ ({ s.dev with calendar := rest } : Device).calendar, isDeadlineOf e.stream y = false := by
      intro y hy
      simpa [isDeadlineOf] using hrest y hy
    have htimeout := timeoutArm_eq (d := { s.dev with calendar := rest }) hw hfree
    refine ⟨_, expire_of_atHead hhead hkind (by simp only [expireEntry, hkind]; rw [htimeout]), rfl, ?_⟩
    have hreport : reportOf e = ⟨.armDeadline, e.stream, e.tag, e.lines⟩ := by rw [reportOf, hkind]
    let f := Stream.afterTimeout s.dev.threshold w.haltOnTimeout s.dev.tb.now
    let u := ({ s.dev with calendar := rest } : Device).modStream e.stream f
    obtain ⟨-, hgoes, hposted, hstreams, hframe⟩ := instant_of_freed (e := e) (u := u) true x.target
      (armTimeoutCompletion e.stream w s.dev.tb.now x) hrun
    have honly : OnlyStream e.stream (f (s.dev.stream e.stream)) s.dev
        (continueInstant (freed e (if true then post x.target (armTimeoutCompletion e.stream w s.dev.tb.now x) u else u))) :=
      fun m => (congrArg (·.get m) hstreams).trans (Device.modStream_stream ..)
    rw [← hreport]
    exact ⟨hframe, hgoes, honly, hposted.congr rfl rfl rfl rfl rfl⟩

end Sys2Proof.Machine
end

section
/-! SUPPORT. The layer of the admissions (3.3): what each stage decides, and what a halt, a skip, a wait and an insertion
leave behind. -/

namespace Sys2Proof.Machine

/-! ## Masks -/

/-- The lines of the mask of a predicate are those that satisfy it. -/
@[simp] theorem inMask_maskOf (p : LineId → Bool) (l : LineId) : inMask (maskOf p) l = p l := by
  rw [Bool.eq_iff_iff, inMask, maskOf, getLsbD_foldl_or]
  constructor
  · rintro (h | ⟨j, hj, hbit⟩)
    · simp at h
    · obtain rfl := (getLsbD_lineBit j l).mp hbit
      exact (List.mem_filter.mp hj).2
  · exact fun h => .inr ⟨l, List.mem_filter.mpr ⟨mem_allLines l, h⟩, (getLsbD_lineBit l l).mpr rfl⟩

@[simp] theorem inMask_zero (l : LineId) : inMask 0 l = false := BitVec.getLsbD_zero

/-- A mask known line by line is the mask of its predicate. -/
theorem maskOf_eq {p : LineId → Bool} {m : Mask} (h : ∀ l, inMask m l = p l) : maskOf p = m :=
  mask_ext fun l => (inMask_maskOf p l).trans (h l).symm

/-- No line satisfies a predicate exactly when its mask is empty. -/
theorem maskOf_eq_zero_iff {p : LineId → Bool} : maskOf p = 0 ↔ ∀ l, p l = false := by
  refine ⟨fun h l => ?_, fun h => maskOf_eq fun l => by rw [inMask_zero, h]⟩
  rw [← inMask_maskOf p l, h, inMask_zero]

theorem inMask_lineBit (j l : LineId) : inMask (lineBit j) l = decide (j = l) := by
  rw [Bool.eq_iff_iff, inMask, getLsbD_lineBit, decide_eq_true_eq]

/-- The one line of a mask of one line. -/
theorem linesOf_lineBit (l : LineId) : linesOf (lineBit l) = [l] := by
  have hsame : linesOf (lineBit l) = allLines.filter (fun j => decide (l = j)) :=
    List.filter_congr fun j _ => inMask_lineBit l j
  rw [hsame]
  revert l; decide

@[simp] theorem lowestLine_lineBit (l : LineId) : lowestLine (lineBit l) = l.val := by
  rw [lowestLine, linesOf_lineBit]

@[simp] theorem oneLine_lineBit (l : LineId) : oneLine (lineBit l) = l := by
  rw [oneLine, linesOf_lineBit]; rfl

theorem lineBit_ne_zero (l : LineId) : lineBit l ≠ 0 := fun h => by
  have := inMask_lineBit l l
  rw [h, inMask_zero] at this
  simp at this

/-! ## Stage 3 (R48) -/

theorem notOwned_eq_zero_iff {d : Device} {n : StreamId} {m : Mask} :
    notOwned d n m = 0 ↔ ∀ l, inMask m l = true → (d.line l).owner = some n := by
  rw [notOwned, maskOf_eq_zero_iff]
  refine forall_congr' fun l => ?_
  cases inMask m l <;> simp

theorem notInMode_eq_zero_iff {d : Device} {mode : LineMode} {m : Mask} :
    notInMode d mode m = 0 ↔ ∀ l, inMask m l = true → (d.line l).mode = mode := by
  rw [notInMode, maskOf_eq_zero_iff]
  refine forall_congr' fun l => ?_
  cases inMask m l <;> simp

/-- Lines owned and in the mode pass stage 3 (R48). -/
theorem lineFault_of_owned {d : Device} {n : StreamId} {mode : LineMode} {m : Mask} (h : OwnedInMode d n mode m) :
    lineFault d n mode m = none := by
  have howned : notOwned d n m = 0 := notOwned_eq_zero_iff.mpr fun l hl => (h l hl).1
  have hmode : notInMode d mode m = 0 := notInMode_eq_zero_iff.mpr fun l hl => (h l hl).2
  simp [lineFault, howned, hmode]

/-- A line that the stream does not own fails stage 3 first (R48). -/
theorem lineFault_of_notOwned {d : Device} {n : StreamId} {mode : LineMode} {m f : Mask} (hf : f ≠ 0)
    (h : ∀ l, inMask f l = (inMask m l && (d.line l).owner != some n)) :
    lineFault d n mode m = some (.notOwner, f) := by
  have hmask : notOwned d n m = f := maskOf_eq h
  rw [lineFault, hmask, if_pos hf]

/-- Owned lines in another mode fail stage 3 (R48). -/
theorem lineFault_of_mode {d : Device} {n : StreamId} {mode : LineMode} {m f : Mask} (hf : f ≠ 0)
    (howned : ∀ l, inMask m l = true → (d.line l).owner = some n)
    (h : ∀ l, inMask f l = (inMask m l && (d.line l).mode != mode)) :
    lineFault d n mode m = some (.lineMode, f) := by
  have hmask : notInMode d mode m = f := maskOf_eq h
  rw [lineFault, if_neg (not_not.mpr (notOwned_eq_zero_iff.mpr howned)), hmask, if_pos hf]

/-- The one line of a mask of one line, owned and in the mode. -/
theorem ownedInMode_lineBit {d : Device} {n : StreamId} {mode : LineMode} {l : LineId} (howner : (d.line l).owner = some n)
    (hmode : (d.line l).mode = mode) : OwnedInMode d n mode (lineBit l) := by
  intro j hj
  rw [inMask_lineBit, decide_eq_true_eq] at hj
  subst hj
  exact ⟨howner, hmode⟩

/-- A line in another mode is the failing line of its mask. -/
theorem notInMode_lineBit {d : Device} {mode : LineMode} {l : LineId} (h : (d.line l).mode ≠ mode) :
    notInMode d mode (lineBit l) = lineBit l := by
  refine maskOf_eq fun j => ?_
  rw [inMask_lineBit]
  by_cases hj : l = j
  · subst hj; simp [h]
  · simp [hj]

/-! ## Stages 4 and 6 (R49, R32) -/

theorem outOfHorizon_iff {d : Device} {t : Time} :
    outOfHorizon d t = true ↔ classify d.tb.now t = .outOfHorizon := by simp [outOfHorizon]

/-- A time that is kept is within the horizon, and the judgement keeps it (R32). -/
theorem judge_of_kept {d : Device} {t due : Time} {window : Nat} {lateRun late : Bool}
    (h : KeptDue d.tb.now t window lateRun due late) :
    outOfHorizon d t = false ∧ judge d.tb.now t window lateRun = .keep due late := by
  unfold outOfHorizon judge
  rcases h with ⟨hc | ⟨k, hc⟩, rfl, rfl⟩ | ⟨p, hc, rfl, ⟨hp, rfl⟩ | ⟨hp, rfl, rfl⟩⟩
  · simp [hc]
  · simp [hc]
  · simp [hc, judgeLate, hp]
  · simp [hc, judgeLate, Nat.not_le.mpr hp]

/-- A time behind beyond its window, with LATE_RUN clear, is skipped (R32). -/
theorem judge_of_late {d : Device} {t : Time} {window p : Nat} {lateRun : Bool} (hc : classify d.tb.now t = .behind p)
    (hp : window < p) (hl : lateRun = false) :
    outOfHorizon d t = false ∧ judge d.tb.now t window lateRun = .skip p := by
  unfold outOfHorizon judge
  simp [hc, judgeLate, Nat.not_le.mpr hp, hl]

/-- The due time of an end time or deadline, which is within the horizon (R84, R94). -/
theorem effectiveDue_of_context {d : Device} {t due : Time} (h : DueOfContext d.tb.now t due) :
    outOfHorizon d t = false ∧ effectiveDue d t = due := by
  unfold outOfHorizon effectiveDue
  rcases h with ⟨hc | ⟨k, hc⟩, rfl⟩ | ⟨⟨p, hc⟩, rfl⟩ <;> simp [hc]

/-- Stages 4 and 6 of a timed record: refused out of horizon, skipped when late, or kept (R49, R32). -/
def whenTimely (n : StreamId) (r : Record) (keep : Time → Bool → Device) (d : Device) : Device :=
  if outOfHorizon d (resolveTime d n r) then refuse n .horizon 0 0 d
  else match judge d.tb.now (resolveTime d n r) (StreamRecord.window r) (StreamRecord.lateRun r) with
    | .skip p => skipLate n r (resolveTime d n r) p d
    | .keep due late => keep due late

theorem whenTimely_of_out {n : StreamId} {r : Record} {keep : Time → Bool → Device} {d : Device}
    (h : classify d.tb.now (resolveTime d n r) = .outOfHorizon) : whenTimely n r keep d = refuse n .horizon 0 0 d :=
  if_pos (outOfHorizon_iff.mpr h)

theorem whenTimely_of_late {n : StreamId} {r : Record} {keep : Time → Bool → Device} {d : Device} {p : Nat}
    (hc : classify d.tb.now (resolveTime d n r) = .behind p) (hp : StreamRecord.window r < p)
    (hl : StreamRecord.lateRun r = false) : whenTimely n r keep d = skipLate n r (resolveTime d n r) p d := by
  obtain ⟨hout, hjudge⟩ := judge_of_late hc hp hl
  rw [whenTimely, hout, if_neg Bool.false_ne_true, hjudge]

theorem whenTimely_of_kept {n : StreamId} {r : Record} {keep : Time → Bool → Device} {d : Device} {due : Time} {late : Bool}
    (h : KeptDue d.tb.now (resolveTime d n r) (StreamRecord.window r) (StreamRecord.lateRun r) due late) :
    whenTimely n r keep d = keep due late := by
  obtain ⟨hout, hjudge⟩ := judge_of_kept h
  rw [whenTimely, hout, if_neg Bool.false_ne_true, hjudge]

/-! ## Stage 7 and 8, by kind -/

/-- The timed action of an entry granted, or the wait for one (R22, R54). -/
theorem admitActionTimed_eq (k : Action) (n : StreamId) (r : Record) (d : Device) : admitActionTimed k n r d =
    whenTimely n r (fun due late =>
      if entryGranted d n then
        insertNew (actionEntry k n r (d.stream n).prio due late)
          (d.modStream n (Stream.consumedAt d.threshold r (resolveTime d n r)))
      else waitFor n .space d) d := by
  rw [← advanceAnchor_consume]
  rfl

/-- The player of a PATTERN granted an entry, or the wait for either (R102, R104). -/
theorem admitPatternTimed_eq (n : StreamId) (r : Record) (d : Device) : admitPatternTimed n r d =
    whenTimely n r (fun due late =>
      if !entryGranted d n then waitFor n .space d
      else match freePlayerOf d with
        | none => waitFor n .player d
        | some p =>
          insertNew (patternEntry n r (d.stream n).prio p due late)
            ((d.modPlayer p fun _ => primedPlayer n r).modStream n
              (Stream.consumedAt d.threshold r (resolveTime d n r)))) d := by
  have hanchor (p : PlayerId) : (d.modPlayer p fun _ => primedPlayer n r).modStream n
      (Stream.consumedAt d.threshold r (resolveTime d n r)) =
      advanceAnchor n r (resolveTime d n r) (consume n (d.modPlayer p fun _ => primedPlayer n r)) :=
    (advanceAnchor_consume n r (resolveTime d n r) (d.modPlayer p fun _ => primedPlayer n r)).symm
  simp only [hanchor]
  rfl

theorem entryGranted_of_may {d : Device} {n : StreamId} (h : MayTakeEntry d n) : entryGranted d n = true :=
  entryGranted_iff.mpr h

theorem entryGranted_of_not_may {d : Device} {n : StreamId} (h : ¬MayTakeEntry d n) : entryGranted d n = false :=
  Bool.eq_false_of_not_eq_true fun hg => h (entryGranted_iff.mp hg)

/-- The FREE player of lowest number (R102). -/
theorem freePlayerOf_eq_some {d : Device} {p : PlayerId} (hp : (d.player p).state = .free)
    (hlow : ∀ q, q < p → (d.player q).state ≠ .free) : freePlayerOf d = some p := by
  have hall : ∀ p : PlayerId, allPlayers = allPlayers.take p.val ++ p :: allPlayers.drop (p.val + 1) := by decide
  have hbelow : ∀ p : PlayerId, ∀ q ∈ allPlayers.take p.val, q < p := by decide
  refine List.find?_eq_some_iff_append.mpr ⟨by simp [hp], _, _, hall p, fun q hq => ?_⟩
  simpa using hlow q (hbelow p q hq)

theorem freePlayerOf_eq_none {d : Device} (h : ∀ p, (d.player p).state ≠ .free) : freePlayerOf d = none := by
  simp [freePlayerOf, List.find?_eq_none, h]

/-! ## What the outcomes leave -/

/-- A wait changes its stream's state and reason alone (R126). -/
theorem waitFor_does (n : StreamId) (w : WaitReason) (d : Device) :
    waitFor n w d = { d with streams := (waitFor n w d).streams } ∧
      OnlyStream n { d.stream n with state := .waiting, reason := w } d (waitFor n w d) :=
  ⟨rfl, fun m => Device.modStream_stream d n m _⟩

/-- An insertion at a change of its stream's context (R16, R24, R54). -/
theorem inserted_insertNew (e : Entry) (n : StreamId) (f : Stream → Stream) (d : Device) :
    Inserted e n (f (d.stream n)) d (insertNew e (d.modStream n f)) :=
  ⟨rfl, fun m => Device.modStream_stream d n m f⟩

@[simp] theorem Stream.consumedAt_target (threshold : Nat) (r : Record) (t : Time) (x : Stream) :
    (x.consumedAt threshold r t).target = x.target := by
  unfold Stream.consumedAt
  rw [Stream.consumed_target]
  split <;> rfl

/-- The LATE_SKIPPED of a record skipped at its admission, with the head of its consumed stream `x` (R32). -/
def skippedCompletion (n : StreamId) (r : Record) (t : Time) (p : Nat) (x : Stream) : Completion :=
  plainCompletion (.stream n) (StreamRecord.kind r) .lateSkipped (StreamRecord.tag r) t
    (lowestLine (StreamRecord.lines r)) x.head (sat32 p) 0

/-- A skip consumes its record and posts LATE_SKIPPED (R32). -/
theorem skipLate_eq (n : StreamId) (r : Record) (t : Time) (p : Nat) (d : Device) :
    let x := (d.stream n).consumedAt d.threshold r t
    skipLate n r t p d = if true then post x.target (skippedCompletion n r t p x)
      (d.modStream n (Stream.consumedAt d.threshold r t)) else d.modStream n (Stream.consumedAt d.threshold r t) := by
  intro x
  unfold skipLate postRecord postStream streamCompletion
  rw [advanceAnchor_consume, Device.modStream_stream_self]
  rfl

/-- What a skip leaves (R32). -/
theorem skipLate_does (n : StreamId) (r : Record) (t : Time) (p : Nat) (d : Device) :
    let x := (d.stream n).consumedAt d.threshold r t
    let d' := skipLate n r t p d
    d' = { d with streams := d'.streams, holding := d'.holding, queues := d'.queues } ∧ OnlyStream n x d d' ∧
      Posted x.target (skippedCompletion n r t p x) d d' := by
  dsimp only
  rw [skipLate_eq]
  exact answered_modStream true _ _ n (Stream.consumedAt d.threshold r t) d

@[simp] theorem Stream.afterHalt_target (x : Stream) : x.afterHalt.target = x.target := rfl

/-- A refusal halts its stream, with the record unconsumed, and posts STREAM_HALTED (R50). -/
theorem haltedWith_refuse {n : StreamId} {r : Record} {d : Device} (hhead : (d.stream n).buffer.head? = some r)
    (code : RefusalCode) (line : Nat) (x2 : W32) :
    HaltedWith n (refusalCompletion n r code line x2 d) d (refuse n code line x2 d) := by
  have hself : (haltStream n d).stream n = (d.stream n).afterHalt := by rw [haltStream_stream, if_pos rfl]
  have hrefuse : refuse n code line x2 d =
      post (d.stream n).target (refusalCompletion n r code line x2 d) (haltStream n d) := by
    unfold refuse postStream streamCompletion
    dsimp only
    rw [hself, headRecord_of_head? hhead]
    rfl
  rw [hrefuse]
  have hposted := posted_post (d.stream n).target (refusalCompletion n r code line x2 d) (haltStream n d)
  refine ⟨?_, fun m => ?_, hposted.congr rfl rfl rfl rfl rfl⟩
  · rw [post_frame, haltStream_frame]
  · rw [post_stream, haltStream_stream]

/-! ## Claims seen from before a change of the stream's own context -/

theorem OnlyStream.of_modStream {n : StreamId} {x : Stream} {g : Stream → Stream} {d d' : Device}
    (h : OnlyStream n x (d.modStream n g) d') : OnlyStream n x d d' := by
  intro m
  rw [h m]
  split
  · rfl
  · next hm => exact Device.modStream_stream_other d n m g hm

theorem Inserted.of_modStream {e : Entry} {n : StreamId} {x : Stream} {g : Stream → Stream} {d d' : Device}
    (h : Inserted e n x (d.modStream n g) d') : Inserted e n x d d' :=
  ⟨h.1, h.2.of_modStream⟩

theorem HaltedWith.of_modStream {n : StreamId} {c : Completion} {g : Stream → Stream} {d d' : Device}
    (htarget : (g (d.stream n)).target = (d.stream n).target) (hhalt : (g (d.stream n)).afterHalt = (d.stream n).afterHalt)
    (h : HaltedWith n c (d.modStream n g) d') : HaltedWith n c d d' := by
  obtain ⟨hframe, honly, hposted⟩ := h
  rw [Device.modStream_stream_self, hhalt] at honly
  rw [Device.modStream_stream_self, htarget] at hposted
  exact ⟨hframe, honly.of_modStream, hposted.congr rfl rfl rfl rfl rfl⟩

end Sys2Proof.Machine
end

section
/-! SUPPORT. The arbiters of free space and of players (R23, R103), and what the resumption of an admission comes to
(R52). -/

namespace Sys2Proof.Machine

/-! ## The choice by priority -/

theorem foldl_max_le_iff {α : Type} (f : α → Nat) (l : List α) (m k : Nat) :
    l.foldl (fun m x => max m (f x)) m ≤ k ↔ m ≤ k ∧ ∀ x ∈ l, f x ≤ k := by
  induction l generalizing m with
  | nil => simp
  | cons x l ih => simp [ih, and_assoc]

/-- No stream of a list is above its greatest priority. -/
theorem prio_le_topPriority {d : Device} {ns : List StreamId} {n : StreamId} (h : n ∈ ns) :
    (d.stream n).prio ≤ topPriority d ns :=
  ((foldl_max_le_iff (fun n => (d.stream n).prio) ns 0 _).mp (le_refl _)).2 n h

/-- Some stream of a list has its greatest priority. -/
theorem exists_prio_eq_topPriority {d : Device} {ns : List StreamId} (h : ns ≠ []) :
    ∃ n ∈ ns, (d.stream n).prio = topPriority d ns := by
  by_contra hnone
  have hbelow : ∀ n ∈ ns, (d.stream n).prio < topPriority d ns := fun n hn =>
    lt_of_le_of_ne (prio_le_topPriority hn) fun he => hnone ⟨n, hn, he⟩
  obtain ⟨n, hn⟩ := List.exists_mem_of_ne_nil ns h
  have hpos : 0 < topPriority d ns := Nat.zero_lt_of_lt (hbelow n hn)
  have : topPriority d ns ≤ topPriority d ns - 1 :=
    (foldl_max_le_iff (fun n => (d.stream n).prio) ns 0 _).mpr ⟨Nat.zero_le _, fun n hn => by have := hbelow n hn; omega⟩
  omega

/-- A choice is made whenever there is a stream to choose. -/
theorem firstByPriority_ne_none {d : Device} {ns : List StreamId} (h : ns ≠ []) : firstByPriority d ns ≠ none := by
  obtain ⟨n, hn, hprio⟩ := exists_prio_eq_topPriority (d := d) h
  intro hnone
  have := List.find?_eq_none.mp hnone n hn
  simp [hprio] at this

/-- The stream chosen has the highest priority, and the lowest number among equals (R23, R103). -/
theorem firstByPriority_first {d : Device} {ns : List StreamId} {n m : StreamId} (hsorted : ns.Pairwise (· < ·))
    (h : firstByPriority d ns = some n) (hm : m ∈ ns) :
    (d.stream m).prio < (d.stream n).prio ∨ ((d.stream m).prio = (d.stream n).prio ∧ n ≤ m) := by
  obtain ⟨htop, before, after, rfl, hbefore⟩ := List.find?_eq_some_iff_append.mp h
  have htop : (d.stream n).prio = topPriority d (before ++ n :: after) := by simpa using htop
  have hle : (d.stream m).prio ≤ (d.stream n).prio := htop ▸ prio_le_topPriority hm
  rcases Nat.lt_or_eq_of_le hle with hlt | heq
  · exact .inl hlt
  · refine .inr ⟨heq, ?_⟩
    rcases List.mem_append.mp hm with hmem | hmem
    · have := hbefore m hmem
      simp [heq, ← htop] at this
    · rcases List.mem_cons.mp hmem with rfl | hmem
      · exact le_refl _
      · exact ((List.pairwise_cons.mp (List.pairwise_append.mp hsorted).2.1).1 m hmem).le

/-- The streams are listed in ascending order. -/
theorem pairwise_allStreams : allStreams.Pairwise (· < ·) := by decide

theorem mem_waitingFor {d : Device} {w : WaitReason} {n : StreamId} :
    n ∈ waitingFor d w ↔ (d.stream n).state = .waiting ∧ (d.stream n).reason = w := by
  simp [waitingFor, mem_allStreams]

theorem mem_spaceCandidates {d : Device} {n : StreamId} : n ∈ (waitingFor d .space).filter (entryGranted d) ↔
    (d.stream n).state = .waiting ∧ (d.stream n).reason = .space ∧ MayTakeEntry d n := by
  rw [List.mem_filter, mem_waitingFor, entryGranted_iff, and_assoc]

theorem freePlayerOf_isSome {d : Device} : (freePlayerOf d).isSome = true ↔ ∃ p, (d.player p).state = .free := by
  rw [freePlayerOf, List.find?_isSome]
  have hall : ∀ p : PlayerId, p ∈ allPlayers := by decide
  simp [hall]

/-- Settles O29. -/
theorem arbitersServeByPriority : Obligations.ArbitersServeByPriority := by
  intro d n
  have hsortedWaiting (w : WaitReason) : (waitingFor d w).Pairwise (· < ·) := pairwise_allStreams.filter _
  refine ⟨fun h => ?_, fun hstate hreason hmay => ?_, fun h => ?_, fun hstate hreason hfree => ?_⟩
  · obtain ⟨hstate, hreason, hmay⟩ := mem_spaceCandidates.mp (mem_of_firstByPriority h)
    exact ⟨hstate, hreason, hmay, fun m hs hr hm =>
      firstByPriority_first ((hsortedWaiting .space).filter _) h (mem_spaceCandidates.mpr ⟨hs, hr, hm⟩)⟩
  · exact firstByPriority_ne_none (List.ne_nil_of_mem (mem_spaceCandidates.mpr ⟨hstate, hreason, hmay⟩))
  · unfold playerChoice at h
    split at h
    · next hfree =>
      obtain ⟨hstate, hreason⟩ := mem_waitingFor.mp (mem_of_firstByPriority h)
      exact ⟨hstate, hreason, freePlayerOf_isSome.mp hfree, fun m hs hr =>
        firstByPriority_first (hsortedWaiting .player) h (mem_waitingFor.mpr ⟨hs, hr⟩)⟩
    · cases h
  · rw [playerChoice, if_pos (freePlayerOf_isSome.mpr hfree)]
    exact firstByPriority_ne_none (List.ne_nil_of_mem (mem_waitingFor.mpr ⟨hstate, hreason⟩))

/-! ## CAPTURE and ARM past stage 3 (R83, R84, R93, R94) -/

section
variable {n : StreamId} {r : Record} {l : LineId} {d : Device}

/-- The end time of a CAPTURE out of horizon is refused (R83). -/
theorem admitCaptureTimed_of_out {resumed : Bool} (hl : StreamRecord.lines r = lineBit l)
    (htimed : StreamRecord.noEnd r = false) (h : classify d.tb.now (resolveTime d n r) = .outOfHorizon) :
    admitCaptureTimed n r resumed d = refuse n .horizon l.val 0 d := by
  simp [admitCaptureTimed, hl, htimed, outOfHorizon_iff.mpr h]

/-- A line whose context is open refuses a second (R83). -/
theorem admitCaptureTimed_of_busy {c : Capture} (hl : StreamRecord.lines r = lineBit l)
    (htimed : StreamRecord.noEnd r = true ∨ classify d.tb.now (resolveTime d n r) ≠ .outOfHorizon)
    (hc : (d.line l).capture = some c) : admitCaptureTimed n r false d = refuse n .captureBusy l.val 0 d := by
  have hin : (!StreamRecord.noEnd r && outOfHorizon d (resolveTime d n r)) = false := by
    rcases htimed with h | h
    · simp [h]
    · rw [Bool.eq_false_of_not_eq_true (mt outOfHorizon_iff.mp h), Bool.and_false]
  simp [admitCaptureTimed, hl, hin, hc]

/-- A CAPTURE without an end opens its context and is consumed (R84). -/
theorem admitCaptureTimed_of_noEnd {resumed : Bool} (hl : StreamRecord.lines r = lineBit l)
    (hnoEnd : StreamRecord.noEnd r = true) (hfree : resumed = true ∨ (d.line l).capture = none) :
    admitCaptureTimed n r resumed d = (d.modLine l fun x => { x with capture := some (openedCapture n r) }).modStream n
      (Stream.consumed d.threshold) := by
  have hopen : (!resumed && (d.line l).capture.isSome) = false := by rcases hfree with h | h <;> simp [h]
  simp [admitCaptureTimed, hl, hnoEnd, hopen, consume_eq_modStream]

/-- A CAPTURE that may not take its end entry waits for space (R22). -/
theorem admitCaptureTimed_of_wait {resumed : Bool} {due : Time} (hl : StreamRecord.lines r = lineBit l)
    (htimed : StreamRecord.noEnd r = false) (hfree : resumed = true ∨ (d.line l).capture = none)
    (hdue : DueOfContext d.tb.now (resolveTime d n r) due) (hmay : ¬MayTakeEntry d n) :
    admitCaptureTimed n r resumed d = waitFor n .space d := by
  have hopen : (!resumed && (d.line l).capture.isSome) = false := by rcases hfree with h | h <;> simp [h]
  simp [admitCaptureTimed, hl, htimed, hopen, effectiveDue_of_context hdue, entryGranted_of_not_may hmay]

/-- A CAPTURE granted its end entry opens its context (R84). -/
theorem admitCaptureTimed_of_granted {resumed : Bool} {due : Time} (hl : StreamRecord.lines r = lineBit l)
    (htimed : StreamRecord.noEnd r = false) (hfree : resumed = true ∨ (d.line l).capture = none)
    (hdue : DueOfContext d.tb.now (resolveTime d n r) due) (hmay : MayTakeEntry d n) :
    admitCaptureTimed n r resumed d = insertNew (contextEntry .captureEnd n r (d.stream n).prio due (.capture l))
      ((d.modLine l fun x => { x with capture := some (openedCapture n r) }).modStream n
        (Stream.consumedAt d.threshold r (resolveTime d n r))) := by
  have hopen : (!resumed && (d.line l).capture.isSome) = false := by rcases hfree with h | h <;> simp [h]
  simp [admitCaptureTimed, hl, htimed, hopen, effectiveDue_of_context hdue, entryGranted_of_may hmay,
    advanceAnchor_consume]

/-- An ARM on a line in another mode is refused (R93). -/
theorem admitArmTimed_of_mode (hl : StreamRecord.lines r = lineBit l) (hmode : (d.line l).mode ≠ .input) :
    admitArmTimed n r d = refuse n .lineMode l.val (StreamRecord.lines r) d := by
  have hne := lineBit_ne_zero l
  simp only [admitArmTimed, hl, notInMode_lineBit hmode]
  rw [if_pos hne, refuseLines, lowestLine_lineBit]

/-- A line in INPUT mode passes stage 3 of an ARM (R93). -/
theorem notInMode_of_input (hl : StreamRecord.lines r = lineBit l) (hmode : (d.line l).mode = .input) :
    notInMode d .input (StreamRecord.lines r) = 0 := by
  rw [hl, notInMode_eq_zero_iff]
  intro j hj
  rw [inMask_lineBit, decide_eq_true_eq] at hj
  subst hj
  exact hmode

/-- The deadline of an ARM out of horizon is refused (R93). -/
theorem admitArmTimed_of_out (hl : StreamRecord.lines r = lineBit l) (hmode : (d.line l).mode = .input)
    (htimed : StreamRecord.noEnd r = false) (h : classify d.tb.now (resolveTime d n r) = .outOfHorizon) :
    admitArmTimed n r d = refuse n .horizon l.val 0 d := by
  have hinput := notInMode_of_input hl hmode
  rw [hl] at hinput
  simp [admitArmTimed, hinput, hl, htimed, outOfHorizon_iff.mpr h]

/-- The stream that waits at its ARM (R92, R94). -/
def Stream.armed (r : Record) (x : Stream) : Stream :=
  { x with armWait := some (begunArm r), state := .waiting, reason := .arm }

/-- An ARM without a deadline begins its wait (R94). -/
theorem admitArmTimed_of_noEnd (hl : StreamRecord.lines r = lineBit l) (hmode : (d.line l).mode = .input)
    (hnoEnd : StreamRecord.noEnd r = true) : admitArmTimed n r d = d.modStream n (Stream.armed r) := by
  simp [admitArmTimed, notInMode_of_input hl hmode, hnoEnd, waitFor, Device.modStream_modStream]
  rfl

/-- An ARM that may not take its deadline entry waits for space (R22). -/
theorem admitArmTimed_of_wait {due : Time} (hl : StreamRecord.lines r = lineBit l) (hmode : (d.line l).mode = .input)
    (htimed : StreamRecord.noEnd r = false) (hdue : DueOfContext d.tb.now (resolveTime d n r) due)
    (hmay : ¬MayTakeEntry d n) : admitArmTimed n r d = waitFor n .space d := by
  simp [admitArmTimed, notInMode_of_input hl hmode, htimed, effectiveDue_of_context hdue, entryGranted_of_not_may hmay]

/-- An ARM granted its deadline entry begins its wait (R94). -/
theorem admitArmTimed_of_granted {due : Time} (hl : StreamRecord.lines r = lineBit l) (hmode : (d.line l).mode = .input)
    (htimed : StreamRecord.noEnd r = false) (hdue : DueOfContext d.tb.now (resolveTime d n r) due)
    (hmay : MayTakeEntry d n) : admitArmTimed n r d =
      insertNew (contextEntry .armDeadline n r (d.stream n).prio due .armWait) (d.modStream n (Stream.armed r)) := by
  simp [admitArmTimed, notInMode_of_input hl hmode, htimed, effectiveDue_of_context hdue, entryGranted_of_may hmay,
    waitFor, Device.modStream_modStream]
  rfl

end

/-! ## PATTERN past stage 6 (R101, R102, R104) -/

section
variable {n : StreamId} {r : Record} {d : Device} {due : Time} {late : Bool}

theorem admitActionTimed_of_wait {k : Action}
    (h : KeptDue d.tb.now (resolveTime d n r) (StreamRecord.window r) (StreamRecord.lateRun r) due late)
    (hmay : ¬MayTakeEntry d n) : admitActionTimed k n r d = waitFor n .space d := by
  rw [admitActionTimed_eq, whenTimely_of_kept h, entryGranted_of_not_may hmay, if_neg Bool.false_ne_true]

theorem admitActionTimed_of_granted {k : Action}
    (h : KeptDue d.tb.now (resolveTime d n r) (StreamRecord.window r) (StreamRecord.lateRun r) due late)
    (hmay : MayTakeEntry d n) : admitActionTimed k n r d = insertNew (actionEntry k n r (d.stream n).prio due late)
      (d.modStream n (Stream.consumedAt d.threshold r (resolveTime d n r))) := by
  rw [admitActionTimed_eq, whenTimely_of_kept h, entryGranted_of_may hmay, if_pos rfl]

theorem admitPatternTimed_of_space
    (h : KeptDue d.tb.now (resolveTime d n r) (StreamRecord.window r) (StreamRecord.lateRun r) due late)
    (hmay : ¬MayTakeEntry d n) : admitPatternTimed n r d = waitFor n .space d := by
  rw [admitPatternTimed_eq, whenTimely_of_kept h, entryGranted_of_not_may hmay, Bool.not_false, if_pos rfl]

theorem admitPatternTimed_of_player
    (h : KeptDue d.tb.now (resolveTime d n r) (StreamRecord.window r) (StreamRecord.lateRun r) due late)
    (hmay : MayTakeEntry d n) (hnone : ∀ p, (d.player p).state ≠ .free) :
    admitPatternTimed n r d = waitFor n .player d := by
  rw [admitPatternTimed_eq, whenTimely_of_kept h, entryGranted_of_may hmay, Bool.not_true, if_neg Bool.false_ne_true,
    freePlayerOf_eq_none hnone]

theorem admitPatternTimed_of_granted {p : PlayerId}
    (h : KeptDue d.tb.now (resolveTime d n r) (StreamRecord.window r) (StreamRecord.lateRun r) due late)
    (hmay : MayTakeEntry d n) (hp : (d.player p).state = .free) (hlow : ∀ q, q < p → (d.player q).state ≠ .free) :
    admitPatternTimed n r d = insertNew (patternEntry n r (d.stream n).prio p due late)
      ((d.modPlayer p fun _ => primedPlayer n r).modStream n
        (Stream.consumedAt d.threshold r (resolveTime d n r))) := by
  rw [admitPatternTimed_eq, whenTimely_of_kept h, entryGranted_of_may hmay, Bool.not_true, if_neg Bool.false_ne_true,
    freePlayerOf_eq_some hp hlow]

/-- What a PATTERN leaves that has taken its player and its entry (R104). -/
theorem inserted_pattern (e : Entry) (p : PlayerId) (y : Player) (f : Stream → Stream) :
    let d' := insertNew e ((d.modPlayer p fun _ => y).modStream n f)
    Inserted e n (f (d.stream n)) { d with players := d'.players } d' ∧
      ∀ q, d'.player q = if q = p then y else d.player q :=
  ⟨inserted_insertNew e n f (d.modPlayer p fun _ => y), fun q => Device.modPlayer_player d p q fun _ => y⟩

/-- What a CAPTURE leaves that has opened its context and taken its end entry (R84). -/
theorem inserted_capture (e : Entry) (l : LineId) (c : Capture) (f : Stream → Stream) :
    let d' := insertNew e ((d.modLine l fun x => { x with capture := some c }).modStream n f)
    Inserted e n (f (d.stream n)) { d with lines := d'.lines } d' ∧
      ∀ k, d'.line k = if k = l then { d.line l with capture := some c } else d.line k :=
  ⟨inserted_insertNew e n f (d.modLine l fun x => { x with capture := some c }),
    fun k => Device.modLine_line d l k fun x => { x with capture := some c }⟩

end

end Sys2Proof.Machine
end

section
/-! SUPPORT. The service of the arbiters of free space and of players: streams served in turn, each resuming its admission
(R23, R52, R102, R103). -/

namespace Sys2Proof.Machine

/-! ## What is calm -/

/-- With the kinds `us` calm, the one kind behind them is what is urgent. -/
theorem urgent_append_of_calm {us : List Urgency} {u : Urgency} {d : Device} (h : calm false us d = true) :
    urgent false (us ++ [u]) d = urgentOf u d := by
  have hnone := (calm_iff false us d).mp h
  simp only [urgent, urgentInstant, Bool.false_and, Bool.false_eq_true, if_false, Option.or_none] at hnone ⊢
  rw [List.findSome?_append, hnone]
  cases hu : urgentOf u d <;> simp [hu]

/-- Nothing comes before the arbiter of free space exactly when no edge, no report, no stopped stream and no open instant
stands (R23, R24). -/
theorem calm_beforeSpace_iff {d : Device} : calm false beforeSpace d = true ↔
    d.edges = [] ∧ d.reports = [] ∧ (∀ n, stopOver d n = false) ∧ d.instantOpen = false := by
  have hedge : urgentEdge d = none ↔ d.edges = [] := by unfold urgentEdge; cases d.edges <;> simp
  have hreport : urgentReport d = none ↔ d.reports = [] := by unfold urgentReport; cases d.reports <;> simp
  have hstopped : urgentStopped d = none ↔ ∀ n, stopOver d n = false := by simp [urgentStopped, mem_allStreams]
  have hexpiry : urgentExpiry d = none ↔ d.instantOpen = false := by unfold urgentExpiry; cases d.instantOpen <;> simp
  rw [calm_iff, urgent, urgentInstant, Bool.false_and, if_neg Bool.false_ne_true, Option.or_none]
  simp only [beforeSpace, beforeStopped, List.cons_append, List.nil_append, List.findSome?_eq_none_iff, List.forall_mem_cons,
    urgentOf, hedge, hreport, hstopped, hexpiry, List.not_mem_nil, false_imp_iff, implies_true, and_true]

/-- With no stream waiting for space nothing comes before the arbiter of players but what comes before that of space. -/
theorem calm_beforePlayer {d : Device} (h : calm false beforeSpace d = true) (hnone : spaceChoice d = none) :
    calm false beforePlayer d = true := by
  rw [calm_iff, beforePlayer, urgent_append_of_calm h, urgentOf, urgentSpace, hnone]
  exact ite_self _

/-- What comes before the arbiter of free space comes before that of players. -/
theorem calm_beforeSpace_of_player {d : Device} (h : calm false beforePlayer d = true) : calm false beforeSpace d = true :=
  calm_of_subset h fun _ hu => List.mem_append_left _ hu

/-! ## Streams served in turn -/

/-- The kind of urgent event that an arbiter is: what is urgent behind `before` is its choice resumed. -/
def Arbitrates (choice : Device → Option StreamId) (before : List Urgency) (u : Urgency) : Prop :=
  ∀ d, calm false before d = true → urgent false (before ++ [u]) d = (choice d).map (fun n => resumeHead n d)

theorem arbitrates_space : Arbitrates spaceChoice beforeSpace .space := by
  intro d h
  obtain ⟨-, -, -, hopen⟩ := calm_beforeSpace_iff.mp h
  rw [urgent_append_of_calm h, urgentOf, afterInstant_of_closed hopen]
  rfl

theorem arbitrates_player : Arbitrates playerChoice beforePlayer .player := by
  intro d h
  obtain ⟨-, -, -, hopen⟩ := calm_beforeSpace_iff.mp (calm_beforeSpace_of_player h)
  rw [urgent_append_of_calm h, urgentOf, afterInstant_of_closed hopen]
  rfl

/-- Streams served in turn are what the settling takes, within its bound (log 21). -/
theorem settle_of_servedInTurn {choice : Device → Option StreamId} {before : List Urgency} {u : Urgency}
    (harb : Arbitrates choice before u) {ns : List StreamId} {d d' : Device} (hfew : ns.length ≤ 4096)
    (h : ServedInTurn choice before ns d d') : settle false (before ++ [u]) d = d' := by
  have loop : ∀ (ns : List StreamId) (fuel : Nat) (d : Device), ns.length ≤ fuel → ServedInTurn choice before ns d d' →
      settleLoop false (before ++ [u]) fuel d = d' := by
    intro ns
    induction ns with
    | nil =>
      intro fuel d _ ⟨hd, hchoice, hcalm⟩
      rw [hd]
      refine settleLoop_of_calm ?_ fuel
      rw [calm_iff, harb d hcalm, hchoice]; rfl
    | cons n ns ih =>
      intro fuel d hfuel ⟨hchoice, hcalm, hrest⟩
      obtain ⟨fuel, rfl⟩ : ∃ k, fuel = k + 1 := ⟨fuel - 1, by simp only [List.length_cons] at hfuel; omega⟩
      simp only [settleLoop, harb d hcalm, hchoice, Option.map_some]
      exact ih fuel _ (by simpa using hfuel) hrest
  exact loop ns 4096 d hfew h

/-- A list in ascending order of the streams of which one alone is a member. -/
theorem eq_singleton_of_ascending {l : List StreamId} {n : StreamId} (hl : l.Pairwise (· < ·)) (h : ∀ m, m ∈ l ↔ m = n) :
    l = [n] := by
  have hnodup : l.Nodup := hl.imp fun hlt => hlt.ne
  exact List.perm_singleton.mp ((List.perm_ext_iff_of_nodup hnodup (List.nodup_singleton n)).mpr fun m => by simp [h])

theorem firstByPriority_singleton (d : Device) (n : StreamId) : firstByPriority d [n] = some n := by
  simp [firstByPriority, topPriority]

/-- The stream that waits alone for space, and fits, is chosen (R23). -/
theorem spaceChoice_of_alone {d : Device} {n : StreamId} (h : WaitsAlone d n .space) (hmay : MayTakeEntry d n) :
    spaceChoice d = some n := by
  obtain ⟨hstate, hreason, hothers⟩ := h
  have hwaiting : (waitingFor d .space).Pairwise (· < ·) := pairwise_allStreams.filter _
  have hone : (waitingFor d .space).filter (entryGranted d) = [n] := by
    refine eq_singleton_of_ascending (hwaiting.filter _) fun m => ?_
    rw [mem_spaceCandidates]
    constructor
    · intro ⟨hs, hr, _⟩
      by_contra hne
      exact hothers m hne ⟨hs, hr⟩
    · rintro rfl
      exact ⟨hstate, hreason, hmay⟩
  rw [spaceChoice, hone, firstByPriority_singleton]

/-- The stream that waits alone for a player is chosen when one is FREE (R103). -/
theorem playerChoice_of_alone {d : Device} {n : StreamId} (h : WaitsAlone d n .player)
    (hfree : ∃ p, (d.player p).state = .free) : playerChoice d = some n := by
  obtain ⟨hstate, hreason, hothers⟩ := h
  have hone : waitingFor d .player = [n] := by
    refine eq_singleton_of_ascending (pairwise_allStreams.filter _) fun m => ?_
    rw [mem_waitingFor]
    constructor
    · intro hm
      by_contra hne
      exact hothers m hne hm
    · rintro rfl
      exact ⟨hstate, hreason⟩
  rw [playerChoice, if_pos (freePlayerOf_isSome.mpr hfree), hone, firstByPriority_singleton]

theorem waitingFor_eq_nil {d : Device} {w : WaitReason}
    (h : ∀ m, ¬((d.stream m).state = .waiting ∧ (d.stream m).reason = w)) : waitingFor d w = [] :=
  List.eq_nil_iff_forall_not_mem.mpr fun m hm => h m (mem_waitingFor.mp hm)

/-- With no stream waiting for space none is chosen. -/
theorem spaceChoice_eq_none {d : Device} (h : ∀ m, ¬((d.stream m).state = .waiting ∧ (d.stream m).reason = .space)) :
    spaceChoice d = none := by
  rw [spaceChoice, waitingFor_eq_nil h]; rfl

theorem playerChoice_eq_none {d : Device} (h : ∀ m, ¬((d.stream m).state = .waiting ∧ (d.stream m).reason = .player)) :
    playerChoice d = none := by
  rw [playerChoice, waitingFor_eq_nil h]
  exact ite_self _

/-! ## A resumption -/

/-- Where the resumption of a record's kind takes up its admission (R52). -/
def resumeAs (k : StreamKind) (n : StreamId) (r : Record) (d : Device) : Device :=
  match k with
  | .set => admitActionTimed .set n r d
  | .pulse => admitActionTimed .pulse n r d
  | .train => admitActionTimed .train n r d
  | .marker => admitActionTimed .marker n r d
  | .pattern => admitPatternTimed n r d
  | .capture => admitCaptureTimed n r true d
  | .arm => admitArmTimed n r d
  | .nop | .anchor | .wait | .claim | .release | .cancel => d

theorem resumeAs_action (k : Action) (n : StreamId) (r : Record) (d : Device) :
    resumeAs k.streamKind n r d = admitActionTimed k n r d := by cases k <;> rfl

/-- A stream that runs again. -/
def Stream.resumed (x : Stream) : Stream := { x with state := .running, reason := .noWait }

theorem setRunning_eq (n : StreamId) (d : Device) : setRunning n d = d.modStream n Stream.resumed := rfl

/-- The stream is RUNNING, and its head record goes on at its kind's stages (R52). -/
theorem resumeHead_of_kind {n : StreamId} {r : Record} {k : StreamKind} {d : Device}
    (hhead : (d.stream n).buffer.head? = some r) (hk : streamKindOf (StreamRecord.kind r) = some k) :
    resumeHead n d = resumeAs k n r (d.modStream n Stream.resumed) := by
  have hrecord : headRecord ((d.modStream n Stream.resumed).stream n) = r := by
    rw [Device.modStream_stream_self]; exact headRecord_of_head? hhead
  unfold resumeHead
  rw [setRunning_eq]
  dsimp only
  rw [hrecord, hk]
  cases k <;> simp only [resumeAs, admitAction, admitPattern, admitCapture, admitArm, hrecord, if_true, Bool.not_true,
    Bool.false_and, Bool.false_eq_true, if_false]

@[simp] theorem resolveTime_resumed (n : StreamId) (r : Record) (d : Device) :
    resolveTime (d.modStream n Stream.resumed) n r = resolveTime d n r := by
  rw [resolveTime, Device.modStream_stream_self]; rfl

theorem mayTakeEntry_resumed {n : StreamId} {d : Device} :
    MayTakeEntry (d.modStream n Stream.resumed) n ↔ MayTakeEntry d n := by
  rw [MayTakeEntry, Device.modStream_stream_self]; rfl

section
variable {n : StreamId} {r : Record} {d : Device}

/-- A resumption that waits again (R22, R102). -/
theorem waitFor_resumed (w : WaitReason) :
    let d' := waitFor n w (d.modStream n Stream.resumed)
    d' = { d with streams := d'.streams } ∧ OnlyStream n { d.stream n with state := .waiting, reason := w } d d' := by
  refine ⟨rfl, ?_⟩
  have honly := (waitFor_does n w (d.modStream n Stream.resumed)).2
  rw [Device.modStream_stream_self] at honly
  exact honly.of_modStream

/-- A resumption that is refused (R50, R52). -/
theorem refuse_resumed (hhead : (d.stream n).buffer.head? = some r) (code : RefusalCode) (line : Nat) (x2 : W32) :
    HaltedWith n (refusalCompletion n r code line x2 d) d (refuse n code line x2 (d.modStream n Stream.resumed)) := by
  have hhead' : ((d.modStream n Stream.resumed).stream n).buffer.head? = some r := by
    rw [Device.modStream_stream_self]; exact hhead
  have hhalted := (haltedWith_refuse hhead' code line x2).of_modStream rfl rfl
  rw [refusalCompletion, Device.modStream_stream_self] at hhalted
  exact hhalted

/-- A resumption that is skipped (R32, R52). -/
theorem skipLate_resumed (t : Time) (p : Nat) :
    let taken := (d.stream n).resumed.consumedAt d.threshold r t
    let d' := skipLate n r t p (d.modStream n Stream.resumed)
    d' = { d with streams := d'.streams, holding := d'.holding, queues := d'.queues } ∧ OnlyStream n taken d d' ∧
      Posted (d.stream n).resumed.target (skippedCompletion n r t p taken) d d' := by
  obtain ⟨hframe, honly, hposted⟩ := skipLate_does n r t p (d.modStream n Stream.resumed)
  rw [Device.modStream_stream_self] at honly hposted
  rw [Stream.consumedAt_target] at hposted
  exact ⟨hframe, honly.of_modStream, hposted.congr rfl rfl rfl rfl rfl⟩

/-- A resumption that takes its entry (R52, R54). -/
theorem inserted_resumed (e : Entry) (f : Stream → Stream) :
    Inserted e n (f (d.stream n).resumed) d (insertNew e ((d.modStream n Stream.resumed).modStream n f)) := by
  have hinserted := inserted_insertNew e n f (d.modStream n Stream.resumed)
  rw [Device.modStream_stream_self] at hinserted
  exact hinserted.of_modStream

@[simp] theorem resumed_prio : ((d.modStream n Stream.resumed).stream n).prio = (d.stream n).prio := by
  rw [Device.modStream_stream_self]; rfl

end

/-! ## The grants -/

/-- SPACE_GRANT and PLAYER_GRANT are the runs of their arbiters. -/
theorem exec_spaceGrant (s : State) : exec .spaceGrant s = act (settle false (beforeSpace ++ [.space])) s := rfl
theorem exec_playerGrant (s : State) : exec .playerGrant s = act (settle false (beforePlayer ++ [.player])) s := rfl

theorem exec_spaceGrant_of_served {s : State} {ns : List StreamId} {d' : Device} (hreset : s.dev.host.resetN = true)
    (hfew : ns.length ≤ 4096) (h : ServedInTurn spaceChoice beforeSpace ns s.dev d') :
    exec .spaceGrant s = .next { s with dev := d' } := by
  rw [exec_spaceGrant, act_of_high hreset, settle_of_servedInTurn arbitrates_space hfew h]

theorem exec_playerGrant_of_served {s : State} {ns : List StreamId} {d' : Device} (hreset : s.dev.host.resetN = true)
    (hfew : ns.length ≤ 4096) (h : ServedInTurn playerChoice beforePlayer ns s.dev d') :
    exec .playerGrant s = .next { s with dev := d' } := by
  rw [exec_playerGrant, act_of_high hreset, settle_of_servedInTurn arbitrates_player hfew h]

/-- An insertion not due now, with the stream running again, leaves nothing before the arbiter of free space. -/
theorem calm_of_inserted {e : Entry} {n : StreamId} {x : Stream} {d d' : Device} (h : Inserted e n x d d')
    (hrun : x.state = .running) (hdue : ¬(d.tb.mode = .running ∧ e.due = d.tb.now))
    (hcalm : calm false beforeSpace d = true) : calm false beforeSpace d' = true := by
  obtain ⟨hedges, hreports, hstopped, hopen⟩ := calm_beforeSpace_iff.mp hcalm
  obtain ⟨hframe, honly⟩ := h
  refine calm_beforeSpace_iff.mpr ⟨by rw [hframe]; exact hedges, by rw [hframe]; exact hreports, fun m => ?_, ?_⟩
  · have hm := honly m
    split at hm
    · simp [stopOver, hm, hrun]
    · rw [stopOver, hm]; exact hstopped m
  · rw [hframe]
    simpa [hopen] using hdue

/-- After the resumption of the one stream that waited, none waits for the reason. -/
theorem noneWaits_of_onlyStream {n : StreamId} {x : Stream} {w : WaitReason} {d d' : Device} (h : OnlyStream n x d d')
    (hrun : x.state = .running)
    (hothers : ∀ m, m ≠ n → ¬((d.stream m).state = .waiting ∧ (d.stream m).reason = w)) :
    ∀ m, ¬((d'.stream m).state = .waiting ∧ (d'.stream m).reason = w) := by
  intro m
  rw [h m]
  split
  · simp [hrun]
  · exact hothers m (by assumption)

/-- Settles O30. -/
theorem grantsResumeAdmission : Obligations.GrantsResumeAdmission := by
  refine ⟨?_, ?_, ?_, ?_⟩
  · intro s n k r due late ⟨hreset, hcalm⟩ halone hhead hkind hmay hkept hdue
    have ⟨_, _, hothers⟩ := halone
    let f := Stream.consumedAt s.dev.threshold r (resolveTime s.dev n r)
    have hresume : resumeHead n s.dev = insertNew (actionEntry k n r (s.dev.stream n).prio due late)
        ((s.dev.modStream n Stream.resumed).modStream n f) := by
      rw [resumeHead_of_kind hhead hkind, resumeAs_action,
        admitActionTimed_of_granted (by rw [resolveTime_resumed]; exact hkept) (mayTakeEntry_resumed.mpr hmay),
        resolveTime_resumed, resumed_prio]
      rfl
    have hinserted := inserted_resumed (n := n) (d := s.dev) (actionEntry k n r (s.dev.stream n).prio due late) f
    rw [← hresume] at hinserted
    have hrun : (f (s.dev.stream n).resumed).state = .running := Stream.consumedAt_state ..
    refine ⟨_, exec_spaceGrant_of_served (ns := [n]) hreset (by simp) ⟨spaceChoice_of_alone halone hmay, hcalm, rfl, ?_, ?_⟩,
      rfl, hinserted⟩
    · exact spaceChoice_eq_none (noneWaits_of_onlyStream hinserted.2 hrun hothers)
    · exact calm_of_inserted hinserted hrun hdue hcalm
  · intro s n p r due late ⟨hreset, hcalm⟩ halone hspace hhead hkind hmay hp hlow hkept hdue
    have ⟨_, _, hothers⟩ := halone
    let f := Stream.consumedAt s.dev.threshold r (resolveTime s.dev n r)
    let v := s.dev.modPlayer p fun _ => primedPlayer n r
    have hresume : resumeHead n s.dev = insertNew (patternEntry n r (s.dev.stream n).prio p due late)
        ((v.modStream n Stream.resumed).modStream n f) := by
      rw [resumeHead_of_kind hhead hkind, resumeAs,
        admitPatternTimed_of_granted (by rw [resolveTime_resumed]; exact hkept) (mayTakeEntry_resumed.mpr hmay) hp hlow,
        resolveTime_resumed, resumed_prio]
      rfl
    have hinserted := inserted_resumed (n := n) (d := v) (patternEntry n r (s.dev.stream n).prio p due late) f
    rw [← hresume] at hinserted
    have hrun : (f (s.dev.stream n).resumed).state = .running := Stream.consumedAt_state ..
    have hplayers : (resumeHead n s.dev).players = v.players := by rw [hresume]; rfl
    have hbefore := calm_beforeSpace_iff.mp (calm_beforeSpace_of_player hcalm)
    have hcalmV : calm false beforeSpace v = true := calm_beforeSpace_iff.mpr hbefore
    have hcalm' : calm false beforeSpace (resumeHead n s.dev) = true := calm_of_inserted hinserted hrun hdue hcalmV
    refine ⟨_, exec_playerGrant_of_served (ns := [n]) hreset (by simp)
      ⟨playerChoice_of_alone halone ⟨p, hp⟩, hcalm, rfl, ?_, ?_⟩, rfl, ?_, fun q => ?_⟩
    · exact playerChoice_eq_none (noneWaits_of_onlyStream hinserted.2 hrun hothers)
    · exact calm_beforePlayer hcalm' (spaceChoice_eq_none
        (noneWaits_of_onlyStream hinserted.2 hrun fun m _ => hspace m))
    · dsimp only
      rw [hplayers]
      exact hinserted
    · exact (congrArg (·.get q) hplayers).trans (Device.modPlayer_player ..)
  · intro s ns d' hreset hfew
    exact ⟨exec_spaceGrant_of_served hreset hfew, exec_playerGrant_of_served hreset hfew⟩
  · intro d n r hhead t₀ d' x taken waits refused skipped late
    have hresume : ∀ {k : StreamKind} {y : Device}, streamKindOf (StreamRecord.kind r) = some k →
        resumeAs k n r (d.modStream n Stream.resumed) = y → d' = y := fun hkind hy =>
      (resumeHead_of_kind hhead hkind).trans hy
    have hnow : resolveTime (d.modStream n Stream.resumed) n r = t₀ := resolveTime_resumed n r d
    have hwaits : ∀ w, d' = waitFor n w (d.modStream n Stream.resumed) → waits w := by
      intro w h
      simp only [waits, h]
      exact waitFor_resumed w
    have hrefused : ∀ code line x2, d' = refuse n code line x2 (d.modStream n Stream.resumed) → refused code line x2 := by
      intro code line x2 h
      simp only [refused, h]
      exact refuse_resumed hhead code line x2
    have hskipped : ∀ p, classify d.tb.now t₀ = .behind p → d' = skipLate n r t₀ p (d.modStream n Stream.resumed) →
        skipped := by
      intro p hp h
      simp only [skipped, h]
      obtain ⟨hframe, honly, hposted⟩ := skipLate_resumed (n := n) (r := r) (d := d) t₀ p
      refine ⟨hframe, honly, fun q hq => ?_⟩
      obtain rfl : p = q := by simpa using hp.symm.trans hq
      exact hposted
    refine ⟨fun k hkind => ?_, fun hkind => ?_, fun l hl hend => ⟨fun hkind => ?_, fun hkind => ?_⟩⟩
    · have haction : ∀ {y : Device}, admitActionTimed k n r (d.modStream n Stream.resumed) = y → d' = y := fun hy =>
        hresume hkind ((resumeAs_action ..).trans hy)
      refine ⟨fun hout => hrefused _ _ _ (haction ?_), fun ⟨p, hp, hwindow, hlate⟩ => hskipped p hp (haction ?_),
        fun due mark hkept => ⟨fun hmay => hwaits _ (haction ?_), fun hmay => ?_⟩⟩
      · rw [admitActionTimed_eq, whenTimely_of_out (by rw [hnow]; exact hout)]
      · rw [admitActionTimed_eq, whenTimely_of_late (by rw [hnow]; exact hp) hwindow hlate, hnow]
      · exact admitActionTimed_of_wait (by rw [hnow]; exact hkept) (mt mayTakeEntry_resumed.mp hmay)
      · rw [haction (admitActionTimed_of_granted (by rw [hnow]; exact hkept) (mayTakeEntry_resumed.mpr hmay)), hnow,
          resumed_prio]
        exact inserted_resumed _ _
    · refine ⟨fun hout => hrefused _ _ _ (hresume hkind ?_),
        fun ⟨p, hp, hwindow, hlate⟩ => hskipped p hp (hresume hkind ?_),
        fun due mark hkept => ⟨fun hmay => hwaits _ (hresume hkind ?_), fun hmay hnone => hwaits _ (hresume hkind ?_),
          fun p hmay hp hlow => ?_⟩⟩
      · rw [resumeAs, admitPatternTimed_eq, whenTimely_of_out (by rw [hnow]; exact hout)]
      · rw [resumeAs, admitPatternTimed_eq, whenTimely_of_late (by rw [hnow]; exact hp) hwindow hlate, hnow]
      · exact admitPatternTimed_of_space (by rw [hnow]; exact hkept) (mt mayTakeEntry_resumed.mp hmay)
      · exact admitPatternTimed_of_player (by rw [hnow]; exact hkept) (mayTakeEntry_resumed.mpr hmay) hnone
      · rw [hresume hkind (admitPatternTimed_of_granted (by rw [hnow]; exact hkept) (mayTakeEntry_resumed.mpr hmay) hp hlow),
          hnow, resumed_prio]
        exact ⟨inserted_resumed (d := d.modPlayer p fun _ => primedPlayer n r) _ _,
          fun q => Device.modPlayer_player d p q fun _ => primedPlayer n r⟩
    · refine ⟨fun hout => hrefused _ _ _ (hresume hkind ?_),
        fun due hdue => ⟨fun hmay => hwaits _ (hresume hkind ?_), fun hmay => ?_⟩⟩
      · exact admitCaptureTimed_of_out hl hend (by rw [hnow]; exact hout)
      · exact admitCaptureTimed_of_wait hl hend (.inl rfl) (by rw [hnow]; exact hdue) (mt mayTakeEntry_resumed.mp hmay)
      · rw [hresume hkind (admitCaptureTimed_of_granted hl hend (.inl rfl) (by rw [hnow]; exact hdue)
          (mayTakeEntry_resumed.mpr hmay)), hnow, resumed_prio]
        exact ⟨inserted_resumed (d := d.modLine l fun x => { x with capture := some (openedCapture n r) }) _ _,
          fun k => Device.modLine_line d l k fun x => { x with capture := some (openedCapture n r) }⟩
    · refine ⟨fun hmode => hrefused _ _ _ (hresume hkind ?_), fun hmode hout => hrefused _ _ _ (hresume hkind ?_),
        fun due hmode hdue => ⟨fun hmay => hwaits _ (hresume hkind ?_), fun hmay => ?_⟩⟩
      · exact admitArmTimed_of_mode hl hmode
      · exact admitArmTimed_of_out hl hmode hend (by rw [hnow]; exact hout)
      · exact admitArmTimed_of_wait hl hmode hend (by rw [hnow]; exact hdue) (mt mayTakeEntry_resumed.mp hmay)
      · rw [hresume hkind (admitArmTimed_of_granted hl hmode hend (by rw [hnow]; exact hdue)
          (mayTakeEntry_resumed.mpr hmay)), resumed_prio]
        exact inserted_resumed _ _

end Sys2Proof.Machine
end

section
/-! SUPPORT. The admissions of the records that need a calendar entry (3.5, 5.1, 5.5, 6.2), and the refusals (3.3). -/

namespace Sys2Proof.Machine

/-! ## The admission of a kind -/

/-- The admission of a record of a kind (R46). -/
def admitOf (k : StreamKind) (n : StreamId) (d : Device) : Device :=
  match k with
  | .nop => admitNop n d
  | .set => admitAction .set n false d
  | .pulse => admitAction .pulse n false d
  | .train => admitAction .train n false d
  | .marker => admitAction .marker n false d
  | .pattern => admitPattern n false d
  | .capture => admitCapture n false d
  | .arm => admitArm n false d
  | .anchor => admitAnchor n d
  | .wait => admitWait n d
  | .claim => admitClaim n d
  | .release => admitRelease n d
  | .cancel => admitCancel n d

theorem admitOf_action (k : Action) (n : StreamId) (d : Device) : admitOf k.streamKind n d = admitAction k n false d := by
  cases k <;> rfl

/-- Every command of a stream kind is its admission, a CANCEL before the run of the read arbiter (log 32). -/
theorem exec_streamCommand (k : StreamKind) (n : StreamId) (s : State) : exec (streamCommand k n) s =
    if k = .cancel then withdrawalEvent (whenAdmits n (some k) (admitOf k n)) s
    else event (whenAdmits n (some k) (admitOf k n)) s := by
  cases k <;> rfl

/-- The command of the kind of the record at a RUNNING stream's head is its admission (R46). -/
theorem exec_of_head {s : State} {n : StreamId} {k : StreamKind} {r : Record} (hsettled : Settled s)
    (hrun : (s.dev.stream n).state = .running) (hhead : (s.dev.stream n).buffer.head? = some r)
    (hkind : streamKindOf (StreamRecord.kind r) = some k) :
    exec (streamCommand k n) s = .next { s with dev := admitOf k n s.dev } := by
  obtain ⟨hreset, hcalm⟩ := hsettled
  have hadmits : whenAdmits n (some k) (admitOf k n) s.dev = admitOf k n s.dev :=
    if_pos (admits_of_head hrun hhead hkind)
  rw [exec_streamCommand]
  split
  · rw [withdrawalEvent_of_calm hreset (calm_allButGrant hcalm), hadmits]
  · rw [event_of_calm hreset hcalm, hadmits]

/-- The command of a record that its stream admits is that record's admission (R46). -/
theorem exec_of_admits {s : State} {n : StreamId} {k : StreamKind} {r : Record} (h : Admits s n k r) :
    exec (streamCommand k n) s = .next { s with dev := admitOf k n s.dev } := by
  obtain ⟨hsettled, hrun, hhead, hkind, -⟩ := h
  exact exec_of_head hsettled hrun hhead hkind

/-! ## Past stages 2 and 3 -/

section
variable {n : StreamId} {r : Record} {d : Device}

theorem admitAction_of_fields {k : Action} (hhead : (d.stream n).buffer.head? = some r)
    (hok : fieldsOk k.streamKind r = true) (hlines : actionLineFault k n r d = none) :
    admitAction k n false d = admitActionTimed k n r d := by
  simp [admitAction, headRecord_of_head? hhead, hok, hlines]

theorem actionLineFault_of_owned {k : Action}
    (h : k ≠ .marker → OwnedInMode d n .output (StreamRecord.lines r)) : actionLineFault k n r d = none := by
  cases k with
  | marker => rfl
  | set => exact lineFault_of_owned (h (by decide))
  | pulse => exact lineFault_of_owned (h (by decide))
  | train => exact lineFault_of_owned (h (by decide))

theorem admitPattern_of_fields (hhead : (d.stream n).buffer.head? = some r) (hok : fieldsOk .pattern r = true)
    (hlines : OwnedInMode d n .output (StreamRecord.lines r)) : admitPattern n false d = admitPatternTimed n r d := by
  simp [admitPattern, headRecord_of_head? hhead, hok, lineFault_of_owned hlines]

theorem admitCapture_of_fields (hhead : (d.stream n).buffer.head? = some r) (hok : fieldsOk .capture r = true)
    (hlines : OwnedInMode d n .input (StreamRecord.lines r)) :
    admitCapture n false d = admitCaptureTimed n r false d := by
  simp [admitCapture, headRecord_of_head? hhead, hok, lineFault_of_owned hlines]

theorem admitArm_of_fields (hhead : (d.stream n).buffer.head? = some r) (hok : fieldsOk .arm r = true) :
    admitArm n false d = admitArmTimed n r d := by
  simp [admitArm, headRecord_of_head? hhead, hok]

end

/-! ## SET, PULSE, TRAIN and MARKER -/

/-- A timed action whose lines pass stage 3 goes on at stage 4. -/
theorem exec_action {s : State} {n : StreamId} {k : Action} {r : Record} (h : Admits s n k.streamKind r)
    (hlines : k ≠ .marker → OwnedInMode s.dev n .output (StreamRecord.lines r)) :
    exec (streamCommand k.streamKind n) s = .next { s with dev := admitActionTimed k n r s.dev } := by
  have ⟨_, _, hhead, _, hok⟩ := h
  rw [exec_of_admits h, admitOf_action, admitAction_of_fields hhead hok (actionLineFault_of_owned hlines)]

/-- The entry of a timed action, with its parts where 12.1 puts them (R15, R54 to R57). -/
theorem actionEntry_parts (k : Action) (n : StreamId) (r : Record) (prio : Nat) (due : Time) (late : Bool) :
    actionEntry k n r prio due late =
      { kind := k.entryKind, stream := n, prio := prio, tag := StreamRecord.tag r, due := due,
        lines := StreamRecord.lines r, levels := StreamRecord.levels r, notify := StreamRecord.notify r,
        window := StreamRecord.window r, lateRun := StreamRecord.lateRun r, lateMark := late,
        phase := if k = .pulse ∨ k = .train then some { phase := .start, width := fieldAt r 24 4 } else none,
        train := if k = .train then some { period := fieldAt r 28 4, remaining := fieldAt r 14 2, driven := 0,
                                           missed := 0, origin := due } else none,
        player := none, context := none } := by
  cases k <;> rfl

/-- Settles O34. -/
theorem timedActionsAreInserted : Obligations.TimedActionsAreInserted := by
  intro s n k r due late hadmits hlines hkept hmay
  refine ⟨actionEntry_parts .., _, exec_action hadmits hlines, rfl, ?_⟩
  dsimp only
  rw [admitActionTimed_of_granted hkept hmay]
  exact inserted_insertNew ..

/-- Settles O35. -/
theorem timedActionsAreSkippedOrWait : Obligations.TimedActionsAreSkippedOrWait := by
  intro s n k r hadmits hlines t x
  refine ⟨fun p hp hwindow hlate => ⟨_, exec_action hadmits hlines, rfl, ?_⟩,
    fun due late hkept hmay => ⟨_, exec_action hadmits hlines, rfl, ?_⟩⟩
  · dsimp only
    rw [admitActionTimed_eq, whenTimely_of_late hp hwindow hlate]
    exact skipLate_does n r t p s.dev
  · dsimp only
    rw [admitActionTimed_of_wait hkept hmay]
    exact waitFor_does n .space s.dev

/-! ## PATTERN -/

/-- The kind byte of a stream kind (12.7). -/
theorem kind_of_streamKind {b : Byte} {k : StreamKind} (h : streamKindOf b = some k) : b = streamKindCode k := by
  refine BitVec.eq_of_toNat_eq ?_
  unfold streamKindOf at h
  split at h <;> cases h <;> assumption

/-- Settles O40. -/
theorem patternTakesPlayer : Obligations.PatternTakesPlayer := by
  intro s n r hadmits hlines t₀ x waits
  have ⟨_, _, hhead, hkind, hok⟩ := hadmits
  have hexec : ∀ {y : Device}, admitPatternTimed n r s.dev = y → exec (.pattern n) s = .next { s with dev := y } := by
    intro y hy
    rw [← hy, ← admitPattern_of_fields hhead hok hlines]
    exact exec_of_admits hadmits
  refine ⟨fun due late hkept => ⟨fun hmay => ?_, fun hmay hnone => ?_, fun p hmay hp hlow => ?_⟩,
    fun p hp hwindow hlate => ?_⟩
  · exact ⟨_, hexec (admitPatternTimed_of_space hkept hmay), rfl, waitFor_does n .space s.dev⟩
  · exact ⟨_, hexec (admitPatternTimed_of_player hkept hmay hnone), rfl, waitFor_does n .player s.dev⟩
  · obtain ⟨hinserted, hplayer⟩ := inserted_pattern (n := n) (d := s.dev) (patternEntry n r (s.dev.stream n).prio p due late)
      p (primedPlayer n r) (Stream.consumedAt s.dev.threshold r t₀)
    exact ⟨_, hexec (admitPatternTimed_of_granted hkept hmay hp hlow), rfl, hinserted, rfl, rfl, hplayer⟩
  · obtain ⟨hframe, honly, hposted⟩ := skipLate_does n r t₀ p s.dev
    rw [skippedCompletion, kind_of_streamKind hkind] at hposted
    refine ⟨_, hexec (y := skipLate n r t₀ p s.dev) ?_, rfl, hframe, honly, hposted⟩
    rw [admitPatternTimed_eq, whenTimely_of_late hp hwindow hlate]

/-! ## CAPTURE and ARM -/

/-- The edges that a short parameter of 1, 2 or another value selects (12.1). -/
theorem edgeSelectOf_eq (k : Nat) :
    edgeSelectOf k = if k = 1 then .rising else if k = 2 then .falling else .both := by
  unfold edgeSelectOf
  split
  · rfl
  · rfl
  · next h1 h2 => rw [if_neg h1, if_neg h2]

/-- Settles O41. -/
theorem captureAndArmBegin : Obligations.CaptureAndArmBegin := by
  intro s n r l hl hmode t₀ waits opens armed
  refine ⟨fun hadmits howner hfree => ?_, fun _ _ _ => rfl, fun edges hedges => ?_, fun hadmits => ?_⟩
  · have ⟨_, _, hhead, _, hok⟩ := hadmits
    have hexec : ∀ {y : Device}, admitCaptureTimed n r false s.dev = y →
        exec (.capture n) s = .next { s with dev := y } := by
      intro y hy
      rw [← hy, ← admitCapture_of_fields hhead hok (hl ▸ ownedInMode_lineBit howner hmode)]
      exact exec_of_admits hadmits
    refine ⟨fun hend => ?_, fun due hend hdue => ⟨fun hmay => ?_, fun hmay => ?_⟩⟩
    · exact ⟨_, hexec (admitCaptureTimed_of_noEnd hl hend (.inr hfree)), rfl,
        fun k => Device.modLine_line s.dev l k fun x => { x with capture := some (openedCapture n r) }, rfl,
        fun m => Device.modStream_stream _ n m _⟩
    · obtain ⟨hinserted, hline⟩ := inserted_capture (n := n) (d := s.dev)
        (contextEntry .captureEnd n r (s.dev.stream n).prio due (.capture l)) l (openedCapture n r)
        (Stream.consumedAt s.dev.threshold r t₀)
      exact ⟨_, hexec (admitCaptureTimed_of_granted hl hend (.inr hfree) hdue hmay), rfl, hline, hinserted⟩
    · exact ⟨_, hexec (admitCaptureTimed_of_wait hl hend (.inr hfree) hdue hmay), rfl, waitFor_does n .space s.dev⟩
  · have hselect : edgeSelectOf (StreamRecord.short r).toNat = edges := (edgeSelectOf_eq _).trans hedges.symm
    rw [openedCapture, begunArm, hselect, hl, oneLine_lineBit]
    exact ⟨rfl, rfl⟩
  · have ⟨_, _, hhead, _, hok⟩ := hadmits
    have hexec : ∀ {y : Device}, admitArmTimed n r s.dev = y → exec (.arm n) s = .next { s with dev := y } := by
      intro y hy
      rw [← hy, ← admitArm_of_fields hhead hok]
      exact exec_of_admits hadmits
    refine ⟨fun hend => ?_, fun due hend hdue => ⟨fun hmay => ?_, fun hmay => ?_⟩⟩
    · exact ⟨_, hexec (admitArmTimed_of_noEnd hl hmode hend), rfl, rfl, fun m => Device.modStream_stream s.dev n m _⟩
    · exact ⟨_, hexec (admitArmTimed_of_granted hl hmode hend hdue hmay), rfl,
        inserted_insertNew _ n (Stream.armed r) s.dev⟩
    · exact ⟨_, hexec (admitArmTimed_of_wait hl hmode hend hdue hmay), rfl, waitFor_does n .space s.dev⟩

end Sys2Proof.Machine
end

section
/-! SUPPORT. The fields of a stream record against its kind (12.1), and the refusals of the stages (3.3). -/

namespace Sys2Proof.Machine

/-! ## Fields as numbers -/

/-- The bytes of a field, as a number. -/
theorem fieldAt_eq (r : Record) (o n : Nat) : fieldAt r o n = r.toNat / 2 ^ (8 * o) % 2 ^ (8 * n) := by
  rw [fieldAt, BitVec.extractLsb'_toNat, Nat.shiftRight_eq_div_pow]

/-- A field of two parts is the lower part and the upper part above it. -/
theorem fieldAt_add (r : Record) (o m n : Nat) :
    fieldAt r o (m + n) = fieldAt r o m + 2 ^ (8 * m) * fieldAt r (o + m) n := by
  simp only [fieldAt_eq]
  rw [Nat.mul_add 8 m n, pow_add, Nat.mod_mul, Nat.mul_add 8 o m, pow_add, Nat.div_div_eq_div_mul]

/-- A field of two parts is 0 exactly when both are. -/
theorem fieldAt_add_eq_zero (r : Record) (o m n : Nat) :
    fieldAt r o (m + n) = 0 ↔ fieldAt r o m = 0 ∧ fieldAt r (o + m) n = 0 := by
  rw [fieldAt_add, Nat.add_eq_zero_iff, Nat.mul_eq_zero]
  simp

/-- A part of a record as a word is 0 exactly when its field is. -/
theorem extract_eq_zero_iff (r : Record) (o n : Nat) : r.extractLsb' (8 * o) (8 * n) = 0 ↔ fieldAt r o n = 0 := by
  rw [fieldAt, ← BitVec.toNat_inj]; rfl

theorem time_eq_zero_iff (r : Record) : StreamRecord.time r = 0 ↔ fieldAt r 8 6 = 0 := extract_eq_zero_iff r 8 6
theorem short_eq_zero_iff (r : Record) : StreamRecord.short r = 0 ↔ fieldAt r 14 2 = 0 := extract_eq_zero_iff r 14 2
theorem lines_eq_zero_iff (r : Record) : StreamRecord.lines r = 0 ↔ fieldAt r 16 4 = 0 := extract_eq_zero_iff r 16 4
theorem levels_eq_zero_iff (r : Record) : StreamRecord.levels r = 0 ↔ fieldAt r 20 4 = 0 := extract_eq_zero_iff r 20 4

theorem short_toNat (r : Record) : (StreamRecord.short r).toNat = fieldAt r 14 2 := rfl
theorem paramA_toNat (r : Record) : (StreamRecord.paramA r).toNat = fieldAt r 24 4 := rfl
theorem paramB_toNat (r : Record) : (StreamRecord.paramB r).toNat = fieldAt r 28 4 := rfl

/-- The table address of a PATTERN stands in bytes 24 to 31 (R101). -/
theorem table_toNat (r : Record) : (StreamRecord.table r).toNat = fieldAt r 24 8 := by
  have hlow : fieldAt r 24 4 < 2 ^ 32 := (r.extractLsb' (8 * 24) (8 * 4)).isLt
  rw [StreamRecord.table, BitVec.toNat_append, paramA_toNat, paramB_toNat, fieldAt_add r 24 4 4,
    Nat.shiftLeft_eq, Nat.mul_comm, ← Nat.two_pow_add_eq_or_of_lt hlow, Nat.add_comm]

/-- The number of lines of a mask, from its number (12.1). -/
theorem lineCount_eq (r : Record) : lineCount (StreamRecord.lines r) =
    (allLines.filter (fun l => (fieldAt r 16 4).testBit l.val)).length := rfl

/-! ## Flags (R42) -/

/-- The flag bits that a kind accepts (R42). -/
def flagBits : StreamKind → List Nat
  | .nop | .anchor | .wait | .claim | .release => [0]
  | .set | .pulse | .train | .marker | .pattern => [0, 1]
  | .cancel => [0, 2]
  | .capture => [0, 4]
  | .arm => [0, 3, 4]

theorem acceptedFlags_bit (k : StreamKind) {b : Nat} (hb : b < 8) :
    (acceptedFlags k).getLsbD b = decide (b ∈ flagBits k) := by
  have hall : ∀ b : Fin 8, (acceptedFlags k).getLsbD b.val = decide (b.val ∈ flagBits k) := by cases k <;> decide
  exact hall ⟨b, hb⟩

/-- A record's flags are accepted exactly when each set bit is one that its kind accepts (R42). -/
theorem flags_accepted_iff (k : StreamKind) (r : Record) : StreamRecord.flags r &&& ~~~acceptedFlags k = 0 ↔
    ∀ b < 8, (fieldAt r 1 1).testBit b = true → b ∈ flagBits k := by
  have hbit (b : Nat) : (StreamRecord.flags r).getLsbD b = (fieldAt r 1 1).testBit b := rfl
  constructor
  · intro h b hb hset
    have hzero : ((StreamRecord.flags r) &&& ~~~acceptedFlags k).getLsbD b = false := by rw [h]; exact BitVec.getLsbD_zero
    rw [BitVec.getLsbD_and, BitVec.getLsbD_not, hbit, hset, acceptedFlags_bit k hb] at hzero
    simpa [hb] using hzero
  · intro h
    refine BitVec.eq_of_getLsbD_eq fun b hb => ?_
    rw [BitVec.getLsbD_and, BitVec.getLsbD_not, hbit, acceptedFlags_bit k hb]
    by_cases hset : (fieldAt r 1 1).testBit b = true
    · simp [h b hb hset]
    · simp [hset]

theorem noEnd_eq (r : Record) : StreamRecord.noEnd r = (fieldAt r 1 1).testBit 4 := rfl
theorem timeoutHalt_eq (r : Record) : StreamRecord.timeoutHalt r = (fieldAt r 1 1).testBit 3 := rfl

/-! ## Stage 2 -/

theorem zero_5_3 (r : Record) : fieldAt r 5 3 = 0 ↔ fieldAt r 5 1 = 0 ∧ fieldAt r 6 2 = 0 := fieldAt_add_eq_zero r 5 1 2
theorem zero_24_8 (r : Record) : fieldAt r 24 8 = 0 ↔ fieldAt r 24 4 = 0 ∧ fieldAt r 28 4 = 0 :=
  fieldAt_add_eq_zero r 24 4 4
theorem zero_20_12 (r : Record) :
    fieldAt r 20 12 = 0 ↔ fieldAt r 20 4 = 0 ∧ fieldAt r 24 4 = 0 ∧ fieldAt r 28 4 = 0 := by
  rw [← zero_24_8]; exact fieldAt_add_eq_zero r 20 4 8
theorem zero_16_16 (r : Record) : fieldAt r 16 16 = 0 ↔
    fieldAt r 16 4 = 0 ∧ fieldAt r 20 4 = 0 ∧ fieldAt r 24 4 = 0 ∧ fieldAt r 28 4 = 0 := by
  rw [← zero_20_12]; exact fieldAt_add_eq_zero r 16 4 12
theorem zero_14_18 (r : Record) : fieldAt r 14 18 = 0 ↔
    fieldAt r 14 2 = 0 ∧ fieldAt r 16 4 = 0 ∧ fieldAt r 20 4 = 0 ∧ fieldAt r 24 4 = 0 ∧ fieldAt r 28 4 = 0 := by
  rw [← zero_16_16]; exact fieldAt_add_eq_zero r 14 2 16

/-- The checks of stage 2, one for each field. -/
theorem fieldsOk_iff (k : StreamKind) (r : Record) : fieldsOk k r = true ↔
    (∀ b < 8, (fieldAt r 1 1).testBit b = true → b ∈ flagBits k) ∧ timeFieldOk k r = true ∧ windowFieldOk k r = true ∧
      linesFieldOk k r = true ∧ levelsFieldOk k r = true ∧ shortFieldOk k r = true ∧ paramsOk k r = true ∧
      repeatsOk k r = true ∧ armPolicyOk k r = true := by
  simp only [fieldsOk, Bool.and_eq_true, beq_iff_eq, flags_accepted_iff, and_assoc]

/-- The time fields: none for a record that carries no time, and a reference that the kind accepts otherwise (R44, R47). -/
theorem timeFieldOk_iff (k : StreamKind) (r : Record) : timeFieldOk k r = true ↔
    (carriesNoTime k r = true → fieldAt r 4 1 = 0 ∧ fieldAt r 8 6 = 0) ∧
      (carriesNoTime k r ≠ true → fieldAt r 4 1 ≤ timeRefLimit k) := by
  unfold timeFieldOk
  split
  · next h => simp [h, StreamRecord.timeRef, ← time_eq_zero_iff]
  · next h => rw [decide_eq_true_iff, StreamRecord.timeRef]; simp [h]

/-- Stage 2 passes the records whose every field is in the range of 12.1 (R42, R47). -/
theorem fieldsOk_iff_inRange (k : StreamKind) (r : Record) : fieldsOk k r = true ↔ FieldsInRange k r := by
  rw [fieldsOk_iff]
  have hrepeats : StreamRecord.repeats r = fieldAt r 5 1 := rfl
  have hwindow : StreamRecord.window r = fieldAt r 6 2 := rfl
  cases k <;>
  simp only [FieldsInRange, flagBits, timeFieldOk_iff, carriesNoTime, timeRefLimit, windowFieldOk, linesFieldOk, levelsFieldOk,
    shortFieldOk, paramsOk, repeatsOk, armPolicyOk, hrepeats, hwindow, noEnd_eq, timeoutHalt_eq, short_toNat,
    paramA_toNat, paramB_toNat, table_toNat, lineCount_eq, short_eq_zero_iff, lines_eq_zero_iff,
    levels_eq_zero_iff, zero_5_3, zero_24_8, zero_20_12, zero_16_16, zero_14_18, Bool.and_eq_true, beq_iff_eq,
    bne_iff_ne, decide_eq_true_eq, ne_eq, Bool.false_eq_true]
  all_goals grind

/-! ## What the stages refuse -/

section
variable {n : StreamId} {r : Record} {d : Device}

/-- A field out of range is refused at stage 2, for a CAPTURE or ARM with the lowest line (R46, R83, R93). -/
theorem admitOf_of_badField {k : StreamKind} (hhead : (d.stream n).buffer.head? = some r) (hbad : fieldsOk k r = false) :
    admitOf k n d =
      refuse n .badField (if k = .capture ∨ k = .arm then lowestLine (StreamRecord.lines r) else 0) 0 d := by
  have hrecord := headRecord_of_head? hhead
  cases k <;> simp [admitOf, admitNop, admitAction, Action.streamKind, admitPattern, admitCapture, admitArm, admitAnchor,
    admitWait, admitClaim, admitRelease, admitCancel, hrecord, hbad]

/-- A line at fault refuses a record whose lines must be owned and in a mode (R48, R50). -/
theorem admitOf_of_lineFault {k : StreamKind} {mode : LineMode} {code : RefusalCode} {f : Mask}
    (hk : (k ∈ [StreamKind.set, .pulse, .train, .pattern] ∧ mode = .output) ∨ (k = .capture ∧ mode = .input))
    (hhead : (d.stream n).buffer.head? = some r) (hok : fieldsOk k r = true)
    (hfault : lineFault d n mode (StreamRecord.lines r) = some (code, f)) :
    admitOf k n d = refuse n code (lowestLine f) f d := by
  have hrecord := headRecord_of_head? hhead
  rcases hk with ⟨hk, rfl⟩ | ⟨rfl, rfl⟩
  · simp only [List.mem_cons, List.not_mem_nil, or_false] at hk
    rcases hk with rfl | rfl | rfl | rfl <;>
      simp [admitOf, admitAction, Action.streamKind, actionLineFault, admitPattern, hrecord, hok, hfault, refuseLines]
  · simp [admitOf, admitCapture, hrecord, hok, hfault, refuseLines]

/-- A timed record of the calendar out of horizon is refused at stage 4 (R49). -/
theorem admitOf_of_out {k : StreamKind} (hhead : (d.stream n).buffer.head? = some r) (hok : fieldsOk k r = true)
    (hout : classify d.tb.now (resolveTime d n r) = .outOfHorizon)
    (hk : k = .marker ∨
      (k ∈ [StreamKind.set, .pulse, .train, .pattern] ∧ OwnedInMode d n .output (StreamRecord.lines r))) :
    admitOf k n d = refuse n .horizon 0 0 d := by
  have haction : ∀ k : Action, fieldsOk k.streamKind r = true →
      (k ≠ .marker → OwnedInMode d n .output (StreamRecord.lines r)) →
      admitAction k n false d = refuse n .horizon 0 0 d := by
    intro k hok hlines
    rw [admitAction_of_fields hhead hok (actionLineFault_of_owned hlines), admitActionTimed_eq, whenTimely_of_out hout]
  rcases hk with rfl | ⟨hk, hlines⟩
  · exact haction .marker hok fun h => absurd rfl h
  · simp only [List.mem_cons, List.not_mem_nil, or_false] at hk
    rcases hk with rfl | rfl | rfl | rfl
    · exact haction .set hok fun _ => hlines
    · exact haction .pulse hok fun _ => hlines
    · exact haction .train hok fun _ => hlines
    · rw [admitOf, admitPattern_of_fields hhead hok hlines, admitPatternTimed_eq, whenTimely_of_out hout]

/-- A CAPTURE of an owned line, or an ARM, of a line in another mode is refused at stage 3 (R83, R93). -/
theorem admitOf_of_inputMode {k : StreamKind} {l : LineId} (hhead : (d.stream n).buffer.head? = some r)
    (hok : fieldsOk k r = true) (hk : k = .arm ∨ (k = .capture ∧ (d.line l).owner = some n))
    (hl : StreamRecord.lines r = lineBit l) (hmode : (d.line l).mode ≠ .input) :
    admitOf k n d = refuse n .lineMode l.val (StreamRecord.lines r) d := by
  rcases hk with rfl | ⟨rfl, howner⟩
  · rw [admitOf, admitArm_of_fields hhead hok, admitArmTimed_of_mode hl hmode]
  · have howned : notOwned d n (lineBit l) = 0 := notOwned_eq_zero_iff.mpr fun j hj => by
      rw [inMask_lineBit, decide_eq_true_eq] at hj
      exact hj ▸ howner
    have hfault : lineFault d n .input (StreamRecord.lines r) = some (.lineMode, lineBit l) := by
      rw [hl, lineFault, if_neg (not_not.mpr howned), notInMode_lineBit hmode, if_pos (lineBit_ne_zero l)]
    rw [admitOf_of_lineFault (.inr ⟨rfl, rfl⟩) hhead hok hfault, hl, lowestLine_lineBit]

/-- The end time of a CAPTURE or the deadline of an ARM out of horizon is refused at stage 4 (R83, R93). -/
theorem admitOf_of_contextOut {k : StreamKind} {l : LineId} (hhead : (d.stream n).buffer.head? = some r)
    (hok : fieldsOk k r = true) (hk : k = .arm ∨ (k = .capture ∧ (d.line l).owner = some n))
    (hl : StreamRecord.lines r = lineBit l) (hmode : (d.line l).mode = .input) (hend : StreamRecord.noEnd r = false)
    (hout : classify d.tb.now (resolveTime d n r) = .outOfHorizon) : admitOf k n d = refuse n .horizon l.val 0 d := by
  rcases hk with rfl | ⟨rfl, howner⟩
  · rw [admitOf, admitArm_of_fields hhead hok, admitArmTimed_of_out hl hmode hend hout]
  · rw [admitOf, admitCapture_of_fields hhead hok (hl ▸ ownedInMode_lineBit howner hmode),
      admitCaptureTimed_of_out hl hend hout]

/-- A CAPTURE of a line with an open context is refused at stage 5 (R83). -/
theorem admitOf_of_busy {l : LineId} {c : Capture} (hhead : (d.stream n).buffer.head? = some r)
    (hok : fieldsOk .capture r = true) (hl : StreamRecord.lines r = lineBit l) (howner : (d.line l).owner = some n)
    (hmode : (d.line l).mode = .input) (hc : (d.line l).capture = some c)
    (htimed : StreamRecord.noEnd r = true ∨ classify d.tb.now (resolveTime d n r) ≠ .outOfHorizon) :
    admitOf .capture n d = refuse n .captureBusy l.val 0 d := by
  rw [admitOf, admitCapture_of_fields hhead hok (hl ▸ ownedInMode_lineBit howner hmode),
    admitCaptureTimed_of_busy hl htimed hc]

/-- A RELEASE of a line that the stream does not own is refused (R71). -/
theorem admitOf_release_of_notOwned {f : Mask} (hhead : (d.stream n).buffer.head? = some r)
    (hok : fieldsOk .release r = true) (hf : f ≠ 0)
    (hmask : ∀ l, inMask f l = (inMask (StreamRecord.lines r) l && (d.line l).owner != some n)) :
    admitOf .release n d = refuse n .notOwner (lowestLine f) f d := by
  have hnot : notOwned d n (StreamRecord.lines r) = f := maskOf_eq hmask
  simp only [admitOf, admitRelease, headRecord_of_head? hhead, hok, Bool.not_true, Bool.false_eq_true, if_false, hnot]
  rw [if_pos hf, refuseLines]

/-- A CLAIM of a line that another stream owns is refused (R70). -/
theorem admitOf_claim_of_conflict {f : Mask} (hhead : (d.stream n).buffer.head? = some r)
    (hok : fieldsOk .claim r = true) (hf : f ≠ 0)
    (hmask : ∀ l, inMask f l = (inMask (StreamRecord.lines r) l && (d.line l).owner.any (fun o => o != n))) :
    admitOf .claim n d = refuse n .claimConflict (lowestLine f) f d := by
  have hothers : ownedByOthers d n (StreamRecord.lines r) = f := maskOf_eq hmask
  simp only [admitOf, admitClaim, headRecord_of_head? hhead, hok, Bool.not_true, Bool.false_eq_true, if_false, hothers]
  rw [if_pos hf, refuseLines]

/-- An ANCHOR out of horizon is refused (R58). -/
theorem admitOf_anchor_of_out (hhead : (d.stream n).buffer.head? = some r) (hok : fieldsOk .anchor r = true)
    (hout : classify d.tb.now (anchorValue d r) = .outOfHorizon) : admitOf .anchor n d = refuse n .horizon 0 0 d := by
  simp [admitOf, admitAnchor, headRecord_of_head? hhead, hok, outOfHorizon_iff.mpr hout]

end

/-- Settles O36. -/
theorem recordsAreRefused : Obligations.RecordsAreRefused := by
  refine ⟨fieldsOk_iff_inRange, fun s n r hsettled hrun hhead => ⟨fun hkind => ?_, fun k hkind hbad => ?_⟩, ?_⟩
  · have hexec : exec (.streamBadKind n) s = .next { s with dev := admitBadKind n s.dev } := by
      have hadmits : whenAdmits n none (admitBadKind n) s.dev = admitBadKind n s.dev :=
        if_pos (admits_of_head hrun hhead hkind)
      exact (event_of_calm hsettled.1 hsettled.2).trans (by rw [hadmits])
    exact ⟨_, hexec, rfl, haltedWith_refuse hhead .badKind 0 0⟩
  · refine ⟨_, exec_of_head hsettled hrun hhead hkind, rfl, ?_⟩
    dsimp only
    rw [admitOf_of_badField hhead (Bool.eq_false_of_not_eq_true (mt (fieldsOk_iff_inRange k r).mp hbad))]
    exact haltedWith_refuse hhead ..
  · have hk' : ∀ k ∈ [StreamKind.set, .pulse, .train, .pattern, .capture, .release],
        k ∈ [StreamKind.set, .pulse, .train, .pattern] ∨ k = .capture ∨ k = .release := by decide
    intro s n k r hadmits m refused
    have ⟨_, _, hhead, _, hok⟩ := hadmits
    have hrefused : ∀ code line x2, admitOf k n s.dev = refuse n code line x2 s.dev → refused code line x2 := by
      intro code line x2 h
      refine ⟨_, exec_of_admits hadmits, rfl, ?_⟩
      dsimp only
      rw [h]
      exact haltedWith_refuse hhead code line x2
    refine ⟨fun f hk hf hmask => ?_, fun f hk howned hf hmask => ?_, fun l hk hm hmode => ?_, fun hout hk => ?_,
      fun hk hout => ?_, fun l hout hend hm hmode hk => ?_, fun f hk hf hmask => ?_,
      fun l c hk hm howner hmode hc htimed => ?_⟩
    · have hfault (mode : LineMode) : lineFault s.dev n mode (StreamRecord.lines r) = some (.notOwner, f) :=
        lineFault_of_notOwned hf hmask
      rcases hk' k hk with houtput | rfl | rfl
      · exact hrefused .notOwner _ f (admitOf_of_lineFault (.inl ⟨houtput, rfl⟩) hhead hok (hfault .output))
      · exact hrefused .notOwner _ f (admitOf_of_lineFault (.inr ⟨rfl, rfl⟩) hhead hok (hfault .input))
      · exact hrefused .notOwner _ f (admitOf_release_of_notOwned hhead hok hf hmask)
    · exact hrefused .lineMode _ f (admitOf_of_lineFault (.inl ⟨hk, rfl⟩) hhead hok (lineFault_of_mode hf howned hmask))
    · exact hrefused .lineMode _ _ (admitOf_of_inputMode hhead hok hk hm hmode)
    · exact hrefused .horizon 0 0 (admitOf_of_out hhead hok hout hk)
    · subst hk
      exact hrefused .horizon 0 0 (admitOf_anchor_of_out hhead hok hout)
    · exact hrefused .horizon _ 0 (admitOf_of_contextOut hhead hok hk hm hmode hend hout)
    · subst hk
      exact hrefused .claimConflict _ f (admitOf_claim_of_conflict hhead hok hf hmask)
    · subst hk
      exact hrefused .captureBusy _ 0 (admitOf_of_busy hhead hok hm howner hmode hc htimed)

end Sys2Proof.Machine
end

section
/-! SUPPORT. ANCHOR and WAIT (3.6, 3.7), and the test of freeing reports up to the one that ends a wait (R21, R60, R73). -/

namespace Sys2Proof.Machine

/-! ## Records consumed with their final completion -/

/-- The final completion of a record posted after a change of its stream's context (R42, R51). -/
theorem postNotified_modStream (n : StreamId) (r : Record) (status : Status) (time : Time) (line : Nat) (x1 x2 : W32)
    (f : Stream → Stream) (d : Device) :
    let x := f (d.stream n)
    postNotified n r status time line x1 x2 (d.modStream n f) =
      if StreamRecord.notify r then post x.target (plainCompletion (.stream n) (StreamRecord.kind r) status
        (StreamRecord.tag r) time line x.head x1 x2) (d.modStream n f) else d.modStream n f := by
  unfold postNotified postRecord postStream streamCompletion
  rw [Device.modStream_stream_self]
  rfl

/-- What a record consumed with its final completion leaves (R42, R51). -/
theorem answered_postNotified (n : StreamId) (r : Record) (status : Status) (time : Time) (line : Nat) (x1 x2 : W32)
    (f : Stream → Stream) (d : Device) :
    let x := f (d.stream n)
    let d' := postNotified n r status time line x1 x2 (d.modStream n f)
    d' = { d with streams := d'.streams, holding := d'.holding, queues := d'.queues } ∧ OnlyStream n x d d' ∧
      PostedIf (StreamRecord.notify r) x.target (plainCompletion (.stream n) (StreamRecord.kind r) status
        (StreamRecord.tag r) time line x.head x1 x2) d d' := by
  dsimp only
  rw [postNotified_modStream]
  exact answered_modStream ..

/-- Settles O38. -/
theorem anchorIsSet : Obligations.AnchorIsSet := by
  intro s n r hadmits v hv x
  have ⟨_, _, hhead, hkind, hok⟩ := hadmits
  have hin : outOfHorizon s.dev (anchorValue s.dev r) = false :=
    Bool.eq_false_of_not_eq_true (mt outOfHorizon_iff.mp hv)
  let f : Stream → Stream := fun y => ({ y with anchor := v } : Stream).consumed s.dev.threshold
  have hanchor : admitAnchor n s.dev = postNotified n r .done v 0 0 0 (s.dev.modStream n f) := by
    simp only [admitAnchor, headRecord_of_head? hhead, hok, hin, Bool.not_true, Bool.false_eq_true, if_false,
      consume_eq_modStream, Device.modStream_modStream]
    rfl
  obtain ⟨hframe, honly, hposted⟩ := answered_postNotified n r .done v 0 0 0 f s.dev
  rw [← hanchor] at hframe honly hposted
  rw [kind_of_streamKind hkind] at hposted
  exact ⟨_, exec_of_admits hadmits, rfl, hframe, honly, hposted⟩

/-! ## WAIT -/

@[simp] theorem Stream.consumed_found (threshold : Nat) (x : Stream) : (x.consumed threshold).found = x.found := by
  unfold Stream.consumed Stream.refetched; split <;> rfl

@[simp] theorem Stream.consumed_ended (threshold : Nat) (x : Stream) : (x.consumed threshold).ended = x.ended := by
  unfold Stream.consumed Stream.refetched; split <;> rfl

/-- The output kinds of entry (R15). -/
theorem isOutputKind_eq (k : EntryKind) :
    isOutputKind k = (k == .set || k == .pulse || k == .train || k == .patternStep) := by cases k <;> rfl

theorem isOutputKind_iff (k : EntryKind) :
    isOutputKind k = true ↔ k = .set ∨ k = .pulse ∨ k = .train ∨ k = .patternStep := by cases k <;> simp [isOutputKind]

theorem matchingEntries_eq (d : Device) (n : StreamId) (v m : Tag) : matchingEntries d n v m =
    (d.calendar.filter (fun e => e.stream == n &&
      (e.kind == .set || e.kind == .pulse || e.kind == .train || e.kind == .patternStep) &&
      e.tag &&& m == v &&& m)).length := by
  simp only [matchingEntries, isOutputKind_eq, tagMatch]

/-- The passage of a WAIT: consumed, the stream RUNNING, and DONE with the count found (R59, R60). -/
theorem passWait_eq {n : StreamId} {r : Record} {d : Device} (hhead : (d.stream n).buffer.head? = some r) :
    passWait n d = postNotified n r .done d.tb.now 0 (sat32 (d.stream n).found) 0
      (d.modStream n fun x => (x.consumed d.threshold).resumed) := by
  unfold passWait
  rw [headRecord_of_head? hhead, consume_eq_modStream, setRunning_eq, Device.modStream_modStream]
  rfl

/-! ## Reports tested up to the one that ends a wait -/

/-- The reports `before` change nothing as they are tested, and the one behind them ends the wait (R21). -/
theorem testReports_of_quiet {done : Device → Bool} {before after : List Report} {x : Report} {d : Device}
    (hquiet : ∀ y ∈ before, ∀ rest, x ∈ rest → testReport y { d with reports := rest } = { d with reports := rest })
    (hbusy : ∀ rest, done { d with reports := rest } = false)
    (hdone : done (testReport x { d with reports := after }) = true) :
    testReports done (before ++ x :: after) d = testReport x { d with reports := after } := by
  have loop : ∀ (before : List Report) (e : Device),
      (∀ rest, ({ e with reports := rest } : Device) = { d with reports := rest }) →
      (∀ y ∈ before, ∀ rest, x ∈ rest → testReport y { d with reports := rest } = { d with reports := rest }) →
      testReports done (before ++ x :: after) e = testReport x { d with reports := after } := by
    intro before
    induction before with
    | nil =>
      intro e he _
      simp only [List.nil_append, testReports]
      rw [he after, if_pos hdone]
    | cons y before ih =>
      intro e he hq
      have hy := hq y (List.mem_cons_self ..) (before ++ x :: after) (by simp)
      simp only [List.cons_append, testReports]
      rw [he (before ++ x :: after), hy, hbusy, if_neg Bool.false_ne_true]
      exact ih _ (fun _ => rfl) fun z hz => hq z (List.mem_cons_of_mem _ hz)
  exact loop before d (fun _ => rfl) hquiet

/-- A report of a stream that waits at no barrier changes nothing (R21). -/
theorem testReport_of_other {y : Report} {d : Device} (hb : (d.stream y.stream).reason ≠ .barrier)
    (hr : (d.stream y.stream).reason ≠ .release) : testReport y d = d := by
  have hwait : waitOver d y = false := by simp [waitOver, concernsWait, hb]
  have hrelease : releaseOver d y = false := by simp [releaseOver, concernsRelease, hr]
  simp [testReport, hwait, hrelease]

/-- A report before another that concerns the same WAIT, or that concerns it not at all, does not end it (R60). -/
theorem testReport_of_earlierWait {x y : Report} {n : StreamId} {d : Device} (hreason : (d.stream n).reason = .barrier)
    (hy : y.stream = n) (hx : x ∈ d.reports) (hxn : x.stream = n) (hc : concernsWait d x = true) : testReport y d = d := by
  have hwait : waitOver d y = false := by
    have hlater : d.reports.any (fun z => z.stream == y.stream && concernsWait d z) = true :=
      List.any_eq_true.mpr ⟨x, hx, by simp [hxn, hy, hc]⟩
    simp [waitOver, hlater]
  have hrelease : releaseOver d y = false := by simp [releaseOver, concernsRelease, hy, hreason]
  simp [testReport, hwait, hrelease]

theorem testReport_of_earlierRelease {x y : Report} {n : StreamId} {d : Device}
    (hreason : (d.stream n).reason = .release) (hy : y.stream = n) (hx : x ∈ d.reports) (hxn : x.stream = n)
    (hc : concernsRelease d x = true) : testReport y d = d := by
  have hrelease : releaseOver d y = false := by
    have hlater : d.reports.any (fun z => z.stream == y.stream && concernsRelease d z) = true :=
      List.any_eq_true.mpr ⟨x, hx, by simp [hxn, hy, hc]⟩
    simp [releaseOver, hlater]
  have hwait : waitOver d y = false := by simp [waitOver, concernsWait, hy, hreason]
  simp [testReport, hwait, hrelease]

/-- The end of a wait by the reports that stand, with no edge handed (R60, R73). -/
theorem endWait_of_calm {n : StreamId} {w : WaitReason} {s : State} (hsettled : SettledFor [.edge] s)
    (hwaits : waitsFor n w s.dev = true) : act (fun d => endWait n w (settle false [.edge] d)) s =
      .next { s with dev := testReports (fun d => !waitsFor n w d) s.dev.reports s.dev } := by
  rw [act_of_high hsettled.1, settle_of_calm hsettled.2, endWait, if_pos hwaits]

theorem exec_barrierPass (n : StreamId) (s : State) :
    exec (.barrierPass n) s = act (fun d => endWait n .barrier (settle false [.edge] d)) s := rfl
theorem exec_releaseComplete (n : StreamId) (s : State) :
    exec (.releaseComplete n) s = act (fun d => endWait n .release (settle false [.edge] d)) s := rfl

theorem waitsFor_iff {n : StreamId} {w : WaitReason} {d : Device} :
    waitsFor n w d = true ↔ (d.stream n).state = .waiting ∧ (d.stream n).reason = w := by simp [waitsFor]

/-- A report that concerns the WAIT of its stream (R60). -/
theorem concernsWait_iff {r : Record} {y : Report} {n : StreamId} {d : Device} (hn : y.stream = n)
    (hstate : (d.stream n).state = .waiting) (hreason : (d.stream n).reason = .barrier)
    (hhead : (d.stream n).buffer.head? = some r) : concernsWait d y = true ↔
      (y.kind = .set ∨ y.kind = .pulse ∨ y.kind = .train ∨ y.kind = .patternStep) ∧
      y.tag &&& StreamRecord.short r = StreamRecord.tag r &&& StreamRecord.short r := by
  unfold concernsWait tagMatch
  dsimp only
  rw [hn, headRecord_of_head? hhead, hstate, hreason]
  simp [isOutputKind_iff]

/-- Settles O39. -/
theorem waitHoldsForMatchingEntries : Obligations.WaitHoldsForMatchingEntries := by
  unfold Obligations.WaitHoldsForMatchingEntries
  intro matching passed
  have hmatching (d : Device) (n : StreamId) (r : Record) :
      matchingEntries d n (StreamRecord.tag r) (StreamRecord.short r) = matching d n r := matchingEntries_eq ..
  have hadmit : ∀ (s : State) (n : StreamId) (r : Record), Admits s n .wait r →
      let v := s.dev.modStream n fun x => { x with found := matching s.dev n r }
      exec (.wait n) s =
        .next { s with dev := if matching s.dev n r = 0 then passWait n v else waitFor n .barrier v } := by
    intro s n r hadmits
    have ⟨_, _, hhead, _, hok⟩ := hadmits
    refine (exec_of_admits hadmits).trans ?_
    simp only [admitOf, admitWait, headRecord_of_head? hhead, hok, Bool.not_true, Bool.false_eq_true, if_false, hmatching]
  refine ⟨fun s n r hadmits hnone => ?_, fun s n r hadmits hsome => ?_, ?_⟩
  · have ⟨_, _, hhead, _, _⟩ := hadmits
    let g : Stream → Stream := fun x => ({ x with found := 0 } : Stream)
    have hhead' : ((s.dev.modStream n g).stream n).buffer.head? = some r := by
      rw [Device.modStream_stream_self]; exact hhead
    obtain ⟨hframe, honly, hposted⟩ := answered_postNotified n r .done s.dev.tb.now 0 (sat32 0) 0
      (fun x => ((g x).consumed s.dev.threshold).resumed) s.dev
    have hexec := hadmit s n r hadmits
    rw [hnone] at hexec
    dsimp only at hexec
    rw [if_pos rfl, passWait_eq hhead', Device.modStream_modStream, Device.modStream_stream_self] at hexec
    refine ⟨_, hexec, ⟨rfl, honly, ?_⟩, hframe⟩
    have hfound : (((g (s.dev.stream n)).consumed s.dev.threshold).resumed).found = 0 :=
      Stream.consumed_found s.dev.threshold (g (s.dev.stream n))
    change PostedIf _ _ (plainCompletion _ _ _ _ _ _ _
      (sat32 (((g (s.dev.stream n)).consumed s.dev.threshold).resumed).found) _) _ _
    rw [hfound]
    exact hposted
  · have hexec := hadmit s n r hadmits
    dsimp only at hexec
    rw [if_neg (Nat.pos_iff_ne_zero.mp hsome), waitFor, Device.modStream_modStream] at hexec
    exact ⟨_, hexec, rfl, rfl, fun m => Device.modStream_stream s.dev n m _⟩
  · intro s n r x before after hsettled hstate hreason hhead hnone hreports concerns hbefore hx hafter
    have hwaits : waitsFor n .barrier s.dev = true := waitsFor_iff.mpr ⟨hstate, hreason⟩
    have hconcerns : ∀ (rest : List Report) (y : Report), y.stream = n →
        (concernsWait { s.dev with reports := rest } y = true ↔ concerns y) := fun rest y hy =>
      (concernsWait_iff (d := { s.dev with reports := rest }) hy hstate hreason hhead).trans (by simp [concerns, hy])
    have hover : waitOver { s.dev with reports := after } x = true := by
      have hlater : after.any (fun y => y.stream == x.stream && concernsWait { s.dev with reports := after } y) = false := by
        refine List.any_eq_false.mpr fun y hy hc => ?_
        obtain ⟨hyn, hc⟩ := Bool.and_eq_true_iff.mp hc
        have hyn : y.stream = n := (beq_iff_eq.mp hyn).trans hx.1
        exact hafter y hy ((hconcerns after y hyn).mp hc)
      have hcount : matchingEntries { s.dev with reports := after } n (StreamRecord.tag r) (StreamRecord.short r) = 0 :=
        (hmatching s.dev n r).trans hnone
      have hrecord : headRecord (({ s.dev with reports := after } : Device).stream n) = r := headRecord_of_head? hhead
      simp only [waitOver, (hconcerns after x hx.1).mpr hx, hx.1, hrecord, hcount, Bool.true_and, beq_self_eq_true]
      rw [hx.1] at hlater
      rw [hlater]; rfl
    have hpass := passWait_eq (n := n) (r := r) (d := { s.dev with reports := after }) hhead
    have htest : testReport x { s.dev with reports := after } = passWait n { s.dev with reports := after } := by
      rw [testReport, if_pos hover, hx.1]
    obtain ⟨hframe, honly, hposted⟩ := answered_postNotified n r .done s.dev.tb.now 0 (sat32 (s.dev.stream n).found) 0
      (fun x => (x.consumed s.dev.threshold).resumed) { s.dev with reports := after }
    have hself : (testReport x { s.dev with reports := after }).stream n =
        ((s.dev.stream n).consumed s.dev.threshold).resumed := by
      rw [htest, hpass]
      exact (honly n).trans (if_pos rfl)
    have hreportsTested : testReports (fun d => !waitsFor n .barrier d) s.dev.reports s.dev =
        testReport x { s.dev with reports := after } := by
      rw [hreports]
      refine testReports_of_quiet (fun y hy rest hrest => ?_) (fun rest => ?_) ?_
      · rcases hbefore y hy with hyn | ⟨hb, hr⟩
        · exact testReport_of_earlierWait (d := { s.dev with reports := rest }) hreason hyn hrest hx.1
            ((hconcerns rest x hx.1).mpr hx)
        · exact testReport_of_other (d := { s.dev with reports := rest }) hb hr
      · have : waitsFor n .barrier { s.dev with reports := rest } = true := hwaits
        rw [this]; rfl
      · simp [waitsFor, hself, Stream.resumed]
    have hexec : exec (.barrierPass n) s = .next { s with dev := passWait n { s.dev with reports := after } } := by
      rw [exec_barrierPass, endWait_of_calm hsettled hwaits, hreportsTested, htest]
    rw [hpass] at hexec
    refine ⟨_, hexec, ⟨rfl, honly, ?_⟩, hframe⟩
    have hfound : (((s.dev.stream n).consumed s.dev.threshold).resumed).found = (s.dev.stream n).found :=
      Stream.consumed_found s.dev.threshold (s.dev.stream n)
    change PostedIf _ _ (plainCompletion _ _ _ _ _ _ _
      (sat32 (((s.dev.stream n).consumed s.dev.threshold).resumed).found) _) _ _
    rw [hfound]
    exact hposted

end Sys2Proof.Machine
end

section
/-! SUPPORT. Several completions posted in a row, several captures ended in a row, and the records that move lines between
owners (4.4, 4.5). -/

namespace Sys2Proof.Machine

/-! ## Several posts -/

/-- Holding buffer, queues and device time are the same: what a post finds. -/
def SamePosts (d e : Device) : Prop := d.holding = e.holding ∧ d.queues = e.queues ∧ d.tb.now = e.tb.now

theorem SamePosts.trans {d e f : Device} (h : SamePosts d e) (h' : SamePosts e f) : SamePosts d f :=
  ⟨h.1.trans h'.1, h.2.1.trans h'.2.1, h.2.2.trans h'.2.2⟩

/-- Posts of one completion to parts that agree in what a post finds leave parts that agree. -/
theorem SamePosts.post {d e : Device} (h : SamePosts d e) (q : CqId) (c : Completion) :
    SamePosts (post q c d) (post q c e) := by
  obtain ⟨hholding, hqueues, hnow⟩ := h
  have hqueue : d.queue q = e.queue q := congrArg (·.get q) hqueues
  by_cases htaken : d.holding.length < 64 ∧ (d.queue q).state = .active
  · have htaken' : e.holding.length < 64 ∧ (e.queue q).state = .active := by rwa [← hholding, ← hqueue]
    rw [post_of_taken htaken, post_of_taken htaken']
    simp only [SamePosts, Device.modQueue, hholding, hqueues, hnow, hqueue, and_self]
  · have htaken' : ¬(e.holding.length < 64 ∧ (e.queue q).state = .active) := by rwa [← hholding, ← hqueue]
    rw [post_of_lost htaken, post_of_lost htaken']
    simp only [SamePosts, addLost, Device.modQueue, hholding, hqueues, hnow, hqueue, and_self]

/-- Completions posted one after another. -/
def postAll (cs : List (CqId × Completion)) (d : Device) : Device := cs.foldl (fun d x => post x.1 x.2 d) d

theorem postAll_append (cs cs' : List (CqId × Completion)) (d : Device) :
    postAll (cs ++ cs') d = postAll cs' (postAll cs d) := List.foldl_append

theorem SamePosts.postAll {d e : Device} (h : SamePosts d e) (cs : List (CqId × Completion)) :
    SamePosts (postAll cs d) (postAll cs e) := by
  induction cs generalizing d e with
  | nil => exact h
  | cons c cs ih => exact ih (h.post c.1 c.2)

/-- What has been posted is read off a part that agrees with the posts alone. -/
theorem postedAll_of_samePosts {cs : List (CqId × Completion)} {d d' : Device} (h : SamePosts d' (postAll cs d)) :
    PostedAll cs d d' := ⟨h.1, h.2.1⟩

/-- Posts one after another touch the holding buffer and the queue contexts alone. -/
theorem postAll_frame (cs : List (CqId × Completion)) (d : Device) :
    postAll cs d = { d with holding := (postAll cs d).holding, queues := (postAll cs d).queues } := by
  induction cs generalizing d with
  | nil => rfl
  | cons c cs ih =>
    refine (ih (post c.1 c.2 d)).trans ?_
    change _ = { d with
      holding := (postAll cs (post c.1 c.2 d)).holding, queues := (postAll cs (post c.1 c.2 d)).queues }
    generalize postAll cs (post c.1 c.2 d) = y
    rw [post_frame]

/-- The completion that is posted when `b` holds. -/
def postsIf (b : Bool) (q : CqId) (c : Completion) : List (CqId × Completion) := if b then [(q, c)] else []

theorem postAll_postsIf (b : Bool) (q : CqId) (c : Completion) (d : Device) :
    postAll (postsIf b q c) d = if b then post q c d else d := by
  cases b <;> rfl

/-! ## Several captures ended -/

/-- The CAPTURE_DONE that the end of a line's context is owed (R89). -/
def capturesDone (d : Device) (l : LineId) : List (CqId × Completion) :=
  match (d.line l).capture with
  | some c => if c.notify then [((d.stream c.stream).target,
      plainCompletion (.stream c.stream) 0x07 .captureDone c.tag d.tb.now l.val (d.stream c.stream).head
        (sat32 c.captured) (sat32 c.missed))] else []
  | none => []

/-- The end of a line's context: its end entry removed, its reference cleared, and CAPTURE_DONE when owed (R89). -/
theorem endCapture_eq {l : LineId} {d : Device} (h : (d.line l).capture.isSome = true) : endCapture l d =
    postAll (capturesDone d l) (removeEntries (isEndEntryOf l) (d.modLine l fun x => { x with capture := none })) := by
  obtain ⟨c, hc⟩ := Option.isSome_iff_exists.mp h
  unfold endCapture capturesDone
  rw [hc]
  dsimp only
  cases c.notify <;> rfl

/-- What the end of a line's context leaves (R89). -/
theorem endCapture_does {l : LineId} {d : Device} (h : (d.line l).capture.isSome = true) :
    let d' := endCapture l d
    d' = { d with
      calendar := d.calendar.filter (fun e => !isEndEntryOf l e),
      reports := d.reports ++ (d.calendar.filter (isEndEntryOf l)).map reportOf,
      lines := d'.lines, holding := d'.holding, queues := d'.queues } ∧
    (∀ k, d'.line k = if k = l then { d.line l with capture := none } else d.line k) ∧
    SamePosts d' (postAll (capturesDone d l) d) := by
  intro d'
  let v := removeEntries (isEndEntryOf l) (d.modLine l fun x => { x with capture := none })
  have hd' : d' = postAll (capturesDone d l) v := endCapture_eq h
  have hframe : d' = { v with holding := d'.holding, queues := d'.queues } := by
    rw [hd']; exact postAll_frame ..
  refine ⟨?_, fun k => ?_, ?_⟩
  · rw [hframe]; rfl
  · have hline : d'.line k = v.line k := by rw [hframe]; rfl
    rw [hline]
    exact Device.modLine_line d l k fun x => { x with capture := none }
  · have hsame : SamePosts v d := ⟨rfl, rfl, rfl⟩
    rw [hd']
    exact hsame.postAll _

theorem isEndEntryOf_inj {l k : LineId} {e : Entry} (h : isEndEntryOf l e = true) (h' : isEndEntryOf k e = true) :
    l = k := by
  simp only [isEndEntryOf, Bool.and_eq_true, beq_iff_eq] at h h'
  simpa using h.2.symm.trans h'.2

/-- What the ends of several open contexts leave, one after another (R71, R89). -/
theorem endCaptures_does (ls : List LineId) (hnodup : ls.Nodup) (d : Device)
    (hopen : ∀ l ∈ ls, (d.line l).capture.isSome = true) :
    let d' := ls.foldl (fun d l => endCapture l d) d
    d' = { d with
      calendar := d.calendar.filter (fun e => !ls.any (fun l => isEndEntryOf l e)),
      reports := d.reports ++ ls.flatMap (fun l => (d.calendar.filter (isEndEntryOf l)).map reportOf),
      lines := d'.lines, holding := d'.holding, queues := d'.queues } ∧
    (∀ k, d'.line k = if k ∈ ls then { d.line k with capture := none } else d.line k) ∧
    SamePosts d' (postAll (ls.flatMap (capturesDone d)) d) := by
  induction ls generalizing d with
  | nil => exact ⟨by simp, by simp, rfl, rfl, rfl⟩
  | cons l ls ih =>
    obtain ⟨hl, hls⟩ := List.nodup_cons.mp hnodup
    obtain ⟨hframe, hline, hposts⟩ := endCapture_does (hopen l (List.mem_cons_self ..))
    have hother : ∀ k ∈ ls, (endCapture l d).line k = d.line k := fun k hk => by
      have hne : k ≠ l := ne_of_mem_of_not_mem hk hl
      rw [hline, if_neg hne]
    have hopen' : ∀ k ∈ ls, ((endCapture l d).line k).capture.isSome = true := fun k hk => by
      rw [hother k hk]; exact hopen k (List.mem_cons_of_mem _ hk)
    obtain ⟨hframe', hline', hposts'⟩ := ih hls (endCapture l d) hopen'
    have htb : (endCapture l d).tb = d.tb := by rw [hframe]
    have hstream (n : StreamId) : (endCapture l d).stream n = d.stream n := by rw [hframe]; rfl
    have hdone : ls.flatMap (capturesDone (endCapture l d)) = ls.flatMap (capturesDone d) :=
      List.flatMap_congr fun k hk => by simp only [capturesDone, hother k hk, htb, hstream]
    have hends : ls.flatMap (fun k => ((endCapture l d).calendar.filter (isEndEntryOf k)).map reportOf) =
        ls.flatMap (fun k => (d.calendar.filter (isEndEntryOf k)).map reportOf) := by
      refine List.flatMap_congr fun k hk => ?_
      have hcalendar : (endCapture l d).calendar = d.calendar.filter (fun e => !isEndEntryOf l e) := by rw [hframe]
      rw [hcalendar, List.filter_filter]
      congr 1
      refine List.filter_congr fun e _ => ?_
      cases hke : isEndEntryOf k e
      · rfl
      · have : isEndEntryOf l e ≠ true := fun hle => hl (isEndEntryOf_inj hle hke ▸ hk)
        simp [this]
    rw [List.foldl_cons]
    refine ⟨?_, fun k => ?_, ?_⟩
    · refine hframe'.trans ?_
      rw [hends]
      generalize ls.foldl (fun d l => endCapture l d) (endCapture l d) = y
      rw [hframe]
      simp only [List.filter_filter, List.any_cons, List.flatMap_cons, List.append_assoc]
      congr 2
      funext e
      cases isEndEntryOf l e <;> simp
    · rw [hline', hline]
      by_cases hk : k ∈ ls
      · have hne : k ≠ l := ne_of_mem_of_not_mem hk hl
        rw [if_pos hk, if_neg hne, if_pos (List.mem_cons_of_mem _ hk)]
      · by_cases he : k = l
        · subst he; simp [hk]
        · simp [hk, he]
    · rw [List.flatMap_cons, postAll_append]
      rw [hdone] at hposts'
      exact hposts'.trans (hposts.postAll _)

end Sys2Proof.Machine
end

section
/-! SUPPORT. CLAIM, RELEASE and the end of a RELEASE's wait (4.4, 4.5). -/

namespace Sys2Proof.Machine

/-! ## A change of lines, and a record consumed with its final completion -/

/-- The posts that the final completion of a record makes (R42, R51). -/
def notices (n : StreamId) (r : Record) (status : Status) (time : Time) (line : Nat) (x1 x2 : W32) (x : Stream) :
    List (CqId × Completion) :=
  postsIf (StreamRecord.notify r) x.target
    (plainCompletion (.stream n) (StreamRecord.kind r) status (StreamRecord.tag r) time line x.head x1 x2)

theorem postNotified_eq_postAll (n : StreamId) (r : Record) (status : Status) (time : Time) (line : Nat) (x1 x2 : W32)
    (f : Stream → Stream) (d : Device) : postNotified n r status time line x1 x2 (d.modStream n f) =
      postAll (notices n r status time line x1 x2 (f (d.stream n))) (d.modStream n f) := by
  rw [postNotified_modStream, notices, postAll_postsIf]

/-- The posts of a list, made from parts that agree in what a post finds, seen as a claim about one completion. -/
theorem postedIf_of_samePosts {b : Bool} {q : CqId} {c : Completion} {d d' : Device}
    (h : SamePosts d' (postAll (postsIf b q c) d)) : PostedIf b q c d d' := by
  rw [postAll_postsIf] at h
  exact (postedIf_ite b q c d).congr rfl rfl rfl h.1.symm h.2.1.symm

/-- What is left of a part `e` that differs in its lines, one stream changed and completions posted. -/
theorem posted_modStream (cs : List (CqId × Completion)) (n : StreamId) (f : Stream → Stream) (e : Device) :
    let d' := postAll cs (e.modStream n f)
    d' = { e with streams := d'.streams, holding := d'.holding, queues := d'.queues } ∧ (∀ l, d'.line l = e.line l) ∧
      OnlyStream n (f (e.stream n)) e d' ∧ SamePosts d' (postAll cs e) := by
  intro d'
  have hframe : d' = { e.modStream n f with holding := d'.holding, queues := d'.queues } := postAll_frame ..
  have hsame : SamePosts (e.modStream n f) e := ⟨rfl, rfl, rfl⟩
  refine ⟨?_, fun l => ?_, fun m => ?_, hsame.postAll cs⟩
  · rw [hframe]; rfl
  · rw [hframe]; rfl
  · have hstream : d'.stream m = (e.modStream n f).stream m := by rw [hframe]; rfl
    rw [hstream, Device.modStream_stream]

/-- A final completion posted after the consumption (R51). -/
theorem postNotified_consume {n : StreamId} {v d : Device} (htb : v.tb = d.tb) (hthreshold : v.threshold = d.threshold)
    (r : Record) (status : Status) (line : Nat) (x1 x2 : W32) :
    postNotified n r status (consume n v).tb.now line x1 x2 (consume n v) =
      postNotified n r status d.tb.now line x1 x2 (v.modStream n (Stream.consumed d.threshold)) := by
  rw [consume_tb, htb, consume_eq_modStream, hthreshold]

/-- A final completion posted after the consumption by a stream that then runs on (R60, R73). -/
theorem postNotified_resumed {n : StreamId} {v d : Device} (htb : v.tb = d.tb) (hthreshold : v.threshold = d.threshold)
    (r : Record) (status : Status) (line : Nat) (x1 x2 : W32) :
    postNotified n r status (setRunning n (consume n v)).tb.now line x1 x2 (setRunning n (consume n v)) =
      postNotified n r status d.tb.now line x1 x2 (v.modStream n fun x => (x.consumed d.threshold).resumed) := by
  rw [setRunning_eq, consume_eq_modStream, Device.modStream_modStream, Device.modStream_tb, htb, hthreshold]

/-! ## CLAIM -/

/-- Lines changed, each by its number: what else stands. -/
theorem mapLines_frame (f : LineId → Line → Line) (d : Device) :
    d.mapLines f = { d with lines := (d.mapLines f).lines } := rfl

/-- What is left by a change of lines, one stream changed and completions posted. -/
theorem posted_lines (cs : List (CqId × Completion)) (n : StreamId) (f : Stream → Stream) {v d : Device}
    (hv : v = { d with lines := v.lines }) :
    let d' := postAll cs (v.modStream n f)
    d' = { d with lines := d'.lines, streams := d'.streams, holding := d'.holding, queues := d'.queues } ∧
      (∀ l, d'.line l = v.line l) ∧ OnlyStream n (f (d.stream n)) d d' ∧ SamePosts d' (postAll cs d) := by
  intro d'
  obtain ⟨hleft, hlines, honly, hposts⟩ := posted_modStream cs n f v
  have hsame : SamePosts v d := by rw [hv]; exact ⟨rfl, rfl, rfl⟩
  have hstream (k : StreamId) : v.stream k = d.stream k := by rw [hv]; rfl
  have hlinesEq : d'.lines = v.lines := by rw [show d' = _ from hleft]
  refine ⟨?_, hlines, fun k => ?_, hposts.trans (hsame.postAll _)⟩
  · rw [hlinesEq]
    refine Eq.trans hleft ?_
    change { v with streams := d'.streams, holding := d'.holding, queues := d'.queues } = _
    generalize d' = y
    rw [hv]
  · rw [honly k, hstream, hstream]

theorem posted_mapLines (cs : List (CqId × Completion)) (n : StreamId) (f : Stream → Stream) (F : LineId → Line → Line)
    (d : Device) :
    let d' := postAll cs ((d.mapLines F).modStream n f)
    d' = { d with lines := d'.lines, streams := d'.streams, holding := d'.holding, queues := d'.queues } ∧
      (∀ l, d'.line l = F l (d.line l)) ∧ OnlyStream n (f (d.stream n)) d d' ∧ SamePosts d' (postAll cs d) := by
  obtain ⟨hleft, hlines, honly, hposts⟩ := posted_lines cs n f (mapLines_frame F d)
  exact ⟨hleft, fun l => (hlines l).trans (Device.mapLines_line ..), honly, hposts⟩

/-- The admission of a CLAIM of lines that no other stream owns (R70). -/
theorem admitClaim_of_free {n : StreamId} {r : Record} {d : Device} (hhead : (d.stream n).buffer.head? = some r)
    (hok : fieldsOk .claim r = true) (hfree : ∀ l, inMask (StreamRecord.lines r) l = true →
      (d.line l).owner = none ∨ (d.line l).owner = some n) :
    let m := StreamRecord.lines r
    let v := d.mapLines fun l x => if inMask m l then { x with owner := some n } else x
    admitClaim n d = postNotified n r .done d.tb.now (lowestLine m) (m &&& ~~~ownedAlready d n m) (ownedAlready d n m)
      (v.modStream n (Stream.consumed d.threshold)) := by
  have hothers : ownedByOthers d n (StreamRecord.lines r) = 0 := by
    refine maskOf_eq_zero_iff.mpr fun l => ?_
    cases hl : inMask (StreamRecord.lines r) l with
    | false => rfl
    | true => rcases hfree l hl with h | h <;> simp [h]
  intro m v
  rw [admitClaim, headRecord_of_head? hhead, hok]
  dsimp only
  rw [Bool.not_true, if_neg Bool.false_ne_true, if_neg (not_not.mpr hothers)]
  exact postNotified_consume (Device.mapLines_tb ..) (Device.mapLines_threshold ..) ..

/-! ## RELEASE -/

theorem meetingEntries_eq (d : Device) (n : StreamId) (m : Mask) : meetingEntries d n m =
    (d.calendar.filter (fun e => e.stream == n &&
      (e.kind == .set || e.kind == .pulse || e.kind == .train || e.kind == .patternStep) &&
      e.lines &&& m != 0)).length := by
  simp only [meetingEntries, isOutputKind_eq]

/-- A RELEASE completed: its lines given up, the record consumed, the stream RUNNING, and DONE (R73). -/
theorem completeRelease_eq {n : StreamId} {r : Record} {d : Device} (hhead : (d.stream n).buffer.head? = some r) :
    let m := StreamRecord.lines r
    let v := d.mapLines fun l x => if inMask m l && x.owner == some n then { x with owner := none } else x
    completeRelease n d = postNotified n r .done d.tb.now (lowestLine m) (sat32 (d.stream n).found)
      (sat32 (d.stream n).ended) (v.modStream n fun x => (x.consumed d.threshold).resumed) := by
  intro m v
  rw [completeRelease, headRecord_of_head? hhead]
  exact postNotified_resumed (Device.mapLines_tb ..) (Device.mapLines_threshold ..) ..

/-- A report that concerns the RELEASE of its stream (R73). -/
theorem concernsRelease_iff {r : Record} {y : Report} {n : StreamId} {d : Device} (hn : y.stream = n)
    (hstate : (d.stream n).state = .waiting) (hreason : (d.stream n).reason = .release)
    (hhead : (d.stream n).buffer.head? = some r) : concernsRelease d y = true ↔
      (y.kind = .set ∨ y.kind = .pulse ∨ y.kind = .train ∨ y.kind = .patternStep) ∧
      y.lines &&& StreamRecord.lines r ≠ 0 := by
  unfold concernsRelease
  dsimp only
  rw [hn, headRecord_of_head? hhead, hstate, hreason]
  simp [isOutputKind_iff]

/-- A RELEASE of owned lines: the captures on them end, and it completes or waits (R71, R72). -/
theorem admitRelease_of_owned {n : StreamId} {r : Record} {d : Device} (hhead : (d.stream n).buffer.head? = some r)
    (hok : fieldsOk .release r = true) (howned : ∀ l, inMask (StreamRecord.lines r) l = true → (d.line l).owner = some n) :
    let m := StreamRecord.lines r
    let ls := allLines.filter fun l => inMask m l && (d.line l).capture.isSome
    let v := ls.foldl (fun d l => endCapture l d) d
    let w := v.modStream n fun x => { x with found := meetingEntries v n m, ended := ls.length }
    admitRelease n d = if meetingEntries v n m = 0 then completeRelease n w else waitFor n .release w := by
  have hnot : notOwned d n (StreamRecord.lines r) = 0 := notOwned_eq_zero_iff.mpr howned
  have hls : (linesOf (StreamRecord.lines r)).filter (fun l => (d.line l).capture.isSome) =
      allLines.filter fun l => inMask (StreamRecord.lines r) l && (d.line l).capture.isSome := by
    rw [linesOf, List.filter_filter]
    simp only [Bool.and_comm]
  intro m ls v w
  rw [admitRelease, headRecord_of_head? hhead, hok]
  dsimp only
  rw [Bool.not_true, if_neg Bool.false_ne_true, if_neg (not_not.mpr hnot), hls]

/-- The ends of captures leave the output entries in the list (R72). -/
theorem meetingEntries_of_endCaptures {v d : Device} {ls : List LineId} (n : StreamId) (m : Mask)
    (h : v.calendar = d.calendar.filter (fun e => !ls.any (fun l => isEndEntryOf l e))) :
    meetingEntries v n m = meetingEntries d n m := by
  simp only [meetingEntries, h, List.filter_filter]
  congr 1
  refine List.filter_congr fun e _ => ?_
  cases hkind : isOutputKind e.kind with
  | false => simp
  | true =>
    have hnone : ls.any (fun l => isEndEntryOf l e) = false := by
      refine List.any_eq_false.mpr fun l _ hend => ?_
      simp only [isEndEntryOf, Bool.and_eq_true, beq_iff_eq] at hend
      simp [hend.1, isOutputKind] at hkind
    simp [hnone]

theorem nodup_allLines : allLines.Nodup := by decide

/-- What a CLAIM of lines that no other stream owns leaves (R70). -/
theorem claim_does {n : StreamId} {r : Record} {d : Device} (hhead : (d.stream n).buffer.head? = some r)
    (hok : fieldsOk .claim r = true) (hfree : ∀ l, inMask (StreamRecord.lines r) l = true →
      (d.line l).owner = none ∨ (d.line l).owner = some n) :
    let m := StreamRecord.lines r
    let x := (d.stream n).consumed d.threshold
    let d' := admitClaim n d
    d' = { d with lines := d'.lines, streams := d'.streams, holding := d'.holding, queues := d'.queues } ∧
    (∀ l, d'.line l = if inMask m l then { d.line l with owner := some n } else d.line l) ∧ OnlyStream n x d d' ∧
    SamePosts d' (postAll (notices n r .done d.tb.now (lowestLine m) (m &&& ~~~ownedAlready d n m) (ownedAlready d n m) x)
      d) := by
  intro m x d'
  have hd' : d' = _ := (admitClaim_of_free hhead hok hfree).trans (postNotified_eq_postAll ..)
  obtain ⟨hframe, hline, honly, hposts⟩ := posted_mapLines (notices n r .done d.tb.now (lowestLine m)
    (m &&& ~~~ownedAlready d n m) (ownedAlready d n m) x) n (Stream.consumed d.threshold)
    (fun l x => if inMask m l then { x with owner := some n } else x) d
  rw [Device.mapLines_stream] at hd'
  rw [← hd'] at hframe hline honly hposts
  exact ⟨hframe, hline, honly, hposts⟩

/-- What a completed RELEASE leaves (R73). -/
theorem completeRelease_does {n : StreamId} {r : Record} {d : Device} (hhead : (d.stream n).buffer.head? = some r) :
    let m := StreamRecord.lines r
    let x := ((d.stream n).consumed d.threshold).resumed
    let d' := completeRelease n d
    d' = { d with lines := d'.lines, streams := d'.streams, holding := d'.holding, queues := d'.queues } ∧
    (∀ l, d'.line l = if inMask m l && (d.line l).owner == some n then { d.line l with owner := none } else d.line l) ∧
    OnlyStream n x d d' ∧
    SamePosts d' (postAll (notices n r .done d.tb.now (lowestLine m) (sat32 (d.stream n).found)
      (sat32 (d.stream n).ended) x) d) := by
  intro m x d'
  have hd' : d' = _ := (completeRelease_eq hhead).trans (postNotified_eq_postAll ..)
  obtain ⟨hframe, hline, honly, hposts⟩ := posted_mapLines (notices n r .done d.tb.now (lowestLine m)
    (sat32 (d.stream n).found) (sat32 (d.stream n).ended) x) n (fun x => (x.consumed d.threshold).resumed)
    (fun l x => if inMask m l && x.owner == some n then { x with owner := none } else x) d
  rw [Device.mapLines_stream] at hd'
  rw [← hd'] at hframe hline honly hposts
  exact ⟨hframe, hline, honly, hposts⟩

end Sys2Proof.Machine
end

section
/-! SUPPORT. The claims about the owners of lines, put together (4.4, 4.5). -/

namespace Sys2Proof.Machine

/-! ## RELEASE -/

/-- A line without a context is as it was when its context is cleared. -/
theorem Line.clear_of_none {x : Line} (h : x.capture = none) : ({ x with capture := none } : Line) = x := by
  cases x; cases h; rfl

/-- The lines of a mask whose contexts are open (R71). -/
def openLines (d : Device) (m : Mask) : List LineId :=
  allLines.filter fun l => inMask m l && (d.line l).capture.isSome

theorem mem_openLines {d : Device} {m : Mask} {l : LineId} :
    l ∈ openLines d m ↔ inMask m l = true ∧ (d.line l).capture.isSome = true := by
  simp [openLines, mem_allLines]

/-- A stream with the counts that its RELEASE found (R72, R73). -/
def Stream.counted (found ended : Nat) (x : Stream) : Stream := { x with found := found, ended := ended }

/-- The part after the captures on the lines of a RELEASE have ended and its stream has kept the counts (R71, R72). -/
theorem releasing_does (n : StreamId) (m : Mask) (d : Device) :
    let w := ((openLines d m).foldl (fun d l => endCapture l d) d).modStream n
      (Stream.counted (meetingEntries d n m) (openLines d m).length)
    w = { d with
      calendar := d.calendar.filter (fun e => !(openLines d m).any (fun l => isEndEntryOf l e)),
      reports := d.reports ++ (openLines d m).flatMap (fun l => (d.calendar.filter (isEndEntryOf l)).map reportOf),
      lines := w.lines, streams := w.streams, holding := w.holding, queues := w.queues } ∧
    (∀ k, w.line k = if inMask m k then { d.line k with capture := none } else d.line k) ∧
    OnlyStream n ((d.stream n).counted (meetingEntries d n m) (openLines d m).length) d w ∧
    SamePosts w (postAll ((openLines d m).flatMap (capturesDone d)) d) := by
  intro w
  obtain ⟨hframe, hline, hposts⟩ := endCaptures_does (openLines d m) (nodup_allLines.filter _) d
    fun l hl => (mem_openLines.mp hl).2
  generalize hv : (openLines d m).foldl (fun d l => endCapture l d) d = v at hframe hline hposts
  have hw : w = v.modStream n (Stream.counted (meetingEntries d n m) (openLines d m).length) := by rw [← hv]
  have hstream (k : StreamId) : v.stream k = d.stream k := by rw [hframe]; rfl
  refine ⟨?_, fun k => ?_, fun k => ?_, ?_⟩
  · rw [hw]
    have hstreams : ∀ (st : Vector Stream 8), ({ v with streams := st } : Device) = { d with
        calendar := d.calendar.filter (fun e => !(openLines d m).any (fun l => isEndEntryOf l e)),
        reports := d.reports ++ (openLines d m).flatMap (fun l => (d.calendar.filter (isEndEntryOf l)).map reportOf),
        lines := v.lines, streams := st, holding := v.holding, queues := v.queues } := by
      intro st
      conv_lhs => rw [hframe]
    exact hstreams _
  · rw [hw]
    refine (hline k).trans ?_
    by_cases hk : inMask m k = true
    · by_cases hc : (d.line k).capture.isSome = true
      · rw [if_pos (mem_openLines.mpr ⟨hk, hc⟩), if_pos hk]
      · rw [if_neg fun h => hc (mem_openLines.mp h).2, if_pos hk,
          Line.clear_of_none (Option.not_isSome_iff_eq_none.mp hc)]
    · rw [if_neg fun h => hk (mem_openLines.mp h).1, if_neg hk]
  · rw [hw, Device.modStream_stream, hstream, hstream]
  · rw [hw]
    have hsame : SamePosts (v.modStream n (Stream.counted (meetingEntries d n m) (openLines d m).length)) v := ⟨rfl, rfl, rfl⟩
    exact hsame.trans hposts

/-- A RELEASE of owned lines completes or waits, by the entries that meet it (R71, R72). -/
theorem admitRelease_eq {n : StreamId} {r : Record} {d : Device} (hhead : (d.stream n).buffer.head? = some r)
    (hok : fieldsOk .release r = true) (howned : ∀ l, inMask (StreamRecord.lines r) l = true → (d.line l).owner = some n) :
    let m := StreamRecord.lines r
    let w := ((openLines d m).foldl (fun d l => endCapture l d) d).modStream n
      (Stream.counted (meetingEntries d n m) (openLines d m).length)
    admitRelease n d = if meetingEntries d n m = 0 then completeRelease n w else waitFor n .release w := by
  intro m w
  have hcalendar := (endCaptures_does (openLines d m) (nodup_allLines.filter _) d fun l hl => (mem_openLines.mp hl).2).1
  have hmeeting : meetingEntries ((openLines d m).foldl (fun d l => endCapture l d) d) n m = meetingEntries d n m :=
    meetingEntries_of_endCaptures n m (by rw [hcalendar])
  have hadmit := admitRelease_of_owned hhead hok howned
  dsimp only at hadmit
  change admitRelease n d = if meetingEntries ((openLines d m).foldl (fun d l => endCapture l d) d) n m = 0 then
    completeRelease n (((openLines d m).foldl (fun d l => endCapture l d) d).modStream n (Stream.counted
      (meetingEntries ((openLines d m).foldl (fun d l => endCapture l d) d) n m) (openLines d m).length))
    else waitFor n .release (((openLines d m).foldl (fun d l => endCapture l d) d).modStream n (Stream.counted
      (meetingEntries ((openLines d m).foldl (fun d l => endCapture l d) d) n m) (openLines d m).length)) at hadmit
  rw [hmeeting] at hadmit
  exact hadmit

end Sys2Proof.Machine
end

section
/-! SUPPORT. The claim about the owners of lines (4.4, 4.5). -/

namespace Sys2Proof.Machine

/-- What a RELEASE of owned lines that no output entry meets leaves (R71, R73). -/
theorem release_passes {n : StreamId} {r : Record} {d : Device} (hhead : (d.stream n).buffer.head? = some r)
    (hok : fieldsOk .release r = true) (howned : ∀ l, inMask (StreamRecord.lines r) l = true → (d.line l).owner = some n)
    (hnone : meetingEntries d n (StreamRecord.lines r) = 0) :
    let m := StreamRecord.lines r
    let y := (d.stream n).counted (meetingEntries d n m) (openLines d m).length
    let d' := admitRelease n d
    d' = { d with
      calendar := d.calendar.filter (fun e => !(openLines d m).any (fun l => isEndEntryOf l e)),
      reports := d.reports ++ (openLines d m).flatMap (fun l => (d.calendar.filter (isEndEntryOf l)).map reportOf),
      lines := d'.lines, streams := d'.streams, holding := d'.holding, queues := d'.queues } ∧
    (∀ k, d'.line k = if inMask m k then { d.line k with capture := none, owner := none } else d.line k) ∧
    OnlyStream n (y.consumed d.threshold).resumed d d' ∧
    SamePosts d' (postAll ((openLines d m).flatMap (capturesDone d) ++ notices n r .done d.tb.now (lowestLine m) 0
      (sat32 y.ended) (y.consumed d.threshold).resumed) d) := by
  intro m y d'
  have hd' : d' = completeRelease n _ := (admitRelease_eq hhead hok howned).trans (if_pos hnone)
  obtain ⟨hframe, hline, honly, hposts⟩ := releasing_does n m d
  generalize ((openLines d m).foldl (fun d l => endCapture l d) d).modStream n
    (Stream.counted (meetingEntries d n m) (openLines d m).length) = w at hd' hframe hline honly hposts
  have hself : w.stream n = y := (honly n).trans (if_pos rfl)
  have hhead' : (w.stream n).buffer.head? = some r := by rw [hself]; exact hhead
  obtain ⟨hframe', hline', honly', hposts'⟩ := completeRelease_does hhead'
  have htb : w.tb = d.tb := by rw [hframe]
  have hthreshold : w.threshold = d.threshold := by rw [hframe]
  have hfound : y.found = 0 := hnone
  rw [hself, htb, hfound, hthreshold] at hposts'
  rw [hself, hthreshold] at honly'
  rw [← hd'] at hframe' hline' honly' hposts'
  refine ⟨?_, fun k => ?_, fun k => ?_, ?_⟩
  · refine hframe'.trans ?_
    generalize d' = z
    rw [hframe]
  · change d'.line k = if inMask (StreamRecord.lines r) k then _ else _
    change ∀ k, w.line k = if inMask (StreamRecord.lines r) k then _ else _ at hline
    rw [hline' k, hline k]
    by_cases hk : inMask (StreamRecord.lines r) k = true
    · simp only [hk, if_true, Bool.true_and, howned k hk, beq_self_eq_true]
    · simp only [hk, Bool.false_and, Bool.false_eq_true, if_false]
  · rw [honly' k, honly k]
    split <;> rfl
  · rw [postAll_append]
    exact hposts'.trans (hposts.postAll _)

/-- What a RELEASE of owned lines that output entries meet leaves (R71, R72). -/
theorem release_waits {n : StreamId} {r : Record} {d : Device} (hhead : (d.stream n).buffer.head? = some r)
    (hok : fieldsOk .release r = true) (howned : ∀ l, inMask (StreamRecord.lines r) l = true → (d.line l).owner = some n)
    (hsome : meetingEntries d n (StreamRecord.lines r) ≠ 0) :
    let m := StreamRecord.lines r
    let y := (d.stream n).counted (meetingEntries d n m) (openLines d m).length
    let d' := admitRelease n d
    d' = { d with
      calendar := d.calendar.filter (fun e => !(openLines d m).any (fun l => isEndEntryOf l e)),
      reports := d.reports ++ (openLines d m).flatMap (fun l => (d.calendar.filter (isEndEntryOf l)).map reportOf),
      lines := d'.lines, streams := d'.streams, holding := d'.holding, queues := d'.queues } ∧
    (∀ k, d'.line k = if inMask m k then { d.line k with capture := none } else d.line k) ∧
    OnlyStream n { y with state := .waiting, reason := .release } d d' ∧
    SamePosts d' (postAll ((openLines d m).flatMap (capturesDone d)) d) := by
  intro m y d'
  have hd' : d' = waitFor n .release _ := (admitRelease_eq hhead hok howned).trans (if_neg hsome)
  obtain ⟨hframe, hline, honly, hposts⟩ := releasing_does n m d
  generalize ((openLines d m).foldl (fun d l => endCapture l d) d).modStream n
    (Stream.counted (meetingEntries d n m) (openLines d m).length) = w at hd' hframe hline honly hposts
  have hself : w.stream n = y := (honly n).trans (if_pos rfl)
  obtain ⟨hframe', honly'⟩ := waitFor_does n .release w
  rw [hself] at honly'
  rw [← hd'] at hframe' honly'
  refine ⟨?_, fun k => ?_, fun k => ?_, ?_⟩
  · have hlines : d'.lines = w.lines := by rw [hframe']
    have hholding : d'.holding = w.holding := by rw [hframe']
    have hqueues : d'.queues = w.queues := by rw [hframe']
    rw [hlines, hholding, hqueues]
    refine hframe'.trans ?_
    generalize d'.streams = z
    conv_lhs => rw [hframe]
  · have hk : d'.line k = w.line k := by rw [hframe']; rfl
    rw [hk, hline k]
  · rw [honly' k, honly k]
    split <;> rfl
  · have hsame : SamePosts d' w := by rw [hframe']; exact ⟨rfl, rfl, rfl⟩
    exact hsame.trans hposts

/-- The end of a RELEASE's wait at the report of the last entry that meets its lines (R21, R73). -/
theorem releaseComplete_takes {s : State} {n : StreamId} {r : Record} {x : Report} {before after : List Report}
    (hsettled : SettledFor [.edge] s) (hstate : (s.dev.stream n).state = .waiting)
    (hreason : (s.dev.stream n).reason = .release) (hhead : (s.dev.stream n).buffer.head? = some r)
    (hnone : meetingEntries s.dev n (StreamRecord.lines r) = 0) (hreports : s.dev.reports = before ++ x :: after)
    (hbefore : ∀ y ∈ before, y.stream = n ∨
      ((s.dev.stream y.stream).reason ≠ .barrier ∧ (s.dev.stream y.stream).reason ≠ .release))
    (hxn : x.stream = n) (hx : concernsRelease s.dev x = true)
    (hafter : ∀ y ∈ after, y.stream = n → concernsRelease s.dev y = false) :
    exec (.releaseComplete n) s = .next { s with dev := completeRelease n { s.dev with reports := after } } := by
  have hwaits : waitsFor n .release s.dev = true := waitsFor_iff.mpr ⟨hstate, hreason⟩
  have hcount : meetingEntries { s.dev with reports := after } n (StreamRecord.lines r) = 0 := hnone
  have hrecord : headRecord (({ s.dev with reports := after } : Device).stream n) = r := headRecord_of_head? hhead
  have hconcerns : concernsRelease { s.dev with reports := after } x = true := hx
  have hlater : after.any (fun y => y.stream == n && concernsRelease { s.dev with reports := after } y) = false := by
    refine List.any_eq_false.mpr fun y hy hc => ?_
    obtain ⟨hyn, hc⟩ := Bool.and_eq_true_iff.mp hc
    exact Bool.false_ne_true ((hafter y hy (beq_iff_eq.mp hyn)).symm.trans hc)
  have hover : releaseOver { s.dev with reports := after } x = true := by
    simp only [releaseOver, hconcerns, hxn, hrecord, hcount, hlater, Bool.true_and, beq_self_eq_true, Bool.not_false]
  have hbarrier : waitOver { s.dev with reports := after } x = false := by
    have hne : (({ s.dev with reports := after } : Device).stream n).reason ≠ .barrier :=
      fun h => absurd (hreason.symm.trans h) (by decide)
    simp only [waitOver, concernsWait, hxn, beq_eq_false_iff_ne.mpr hne, Bool.and_false, Bool.false_and]
  have htest : testReport x { s.dev with reports := after } = completeRelease n { s.dev with reports := after } := by
    rw [testReport, hbarrier, hover, if_neg Bool.false_ne_true, if_pos rfl, hxn]
  have hself : (completeRelease n { s.dev with reports := after }).stream n =
      ((s.dev.stream n).consumed s.dev.threshold).resumed :=
    ((completeRelease_does (d := { s.dev with reports := after }) hhead).2.2.1 n).trans (if_pos rfl)
  have htested : testReports (fun d => !waitsFor n .release d) s.dev.reports s.dev =
      testReport x { s.dev with reports := after } := by
    rw [hreports]
    refine testReports_of_quiet (fun y hy rest hrest => ?_) (fun rest => ?_) ?_
    · rcases hbefore y hy with hyn | ⟨hb, hr⟩
      · exact testReport_of_earlierRelease (d := { s.dev with reports := rest }) hreason hyn hrest hxn hx
      · exact testReport_of_other (d := { s.dev with reports := rest }) hb hr
    · have : waitsFor n .release { s.dev with reports := rest } = true := hwaits
      rw [this]; rfl
    · rw [htest]; simp [waitsFor, hself, Stream.resumed]
  rw [exec_releaseComplete, endWait_of_calm hsettled hwaits, htested, htest]

/-- Settles O42. -/
theorem ownershipMoves : Obligations.OwnershipMoves := by
  unfold Obligations.OwnershipMoves
  intro meeting s n r m held
  have hmeeting (d : Device) : meetingEntries d n m = meeting d n m := meetingEntries_eq ..
  refine ⟨fun already hadmits hfree halready => ?_, fun hadmits howned => ?_, ?_⟩
  · intro x
    have ⟨_, _, hhead, hkind, hok⟩ := hadmits
    have hmask : ownedAlready s.dev n m = already := maskOf_eq halready
    obtain ⟨hframe, hline, honly, hposts⟩ := claim_does hhead hok hfree
    rw [hmask] at hposts
    refine ⟨_, exec_of_admits hadmits, rfl, hframe, hline, honly, ?_⟩
    have hposted := postedIf_of_samePosts hposts
    rw [kind_of_streamKind hkind] at hposted
    exact hposted
  · intro y passes endOf
    have ⟨_, _, hhead, hkind, hok⟩ := hadmits
    have hexec := exec_of_admits hadmits
    have hcalendar : (fun e => !(openLines s.dev m).any (fun l => isEndEntryOf l e)) =
        fun e => !(allLines.any (fun l => held l && endOf l e)) := by
      funext e
      rw [openLines, List.any_filter]
      rfl
    have hends : ((openLines s.dev m).flatMap fun l => (s.dev.calendar.filter (isEndEntryOf l)).map reportOf) =
        (allLines.filter held).flatMap (fun l => (s.dev.calendar.filter (endOf l)).map reportOf) := rfl
    by_cases hnone : meetingEntries s.dev n m = 0
    · have hpasses : passes = true := by simp only [passes, ← hmeeting, hnone, beq_self_eq_true]
      obtain ⟨hframe, hline, honly, hposts⟩ := release_passes hhead hok howned hnone
      rw [hcalendar, hends] at hframe
      rw [hmeeting] at honly hposts
      refine ⟨_, hexec, rfl, hframe, ?_, ?_, ?_⟩
      · rw [hpasses]; exact hline
      · rw [hpasses]; exact honly
      · rw [hpasses, Bool.true_and]
        have hposted := postedAll_of_samePosts hposts
        rw [notices, kind_of_streamKind hkind] at hposted
        have htarget : (y.consumed s.dev.threshold).resumed.target = y.target := Stream.consumed_target ..
        change PostedAll (_ ++ postsIf _ (y.consumed s.dev.threshold).resumed.target _) _ _ at hposted
        rw [htarget] at hposted
        exact hposted
    · have hpasses : passes = false := by simpa only [passes, ← hmeeting, beq_eq_false_iff_ne] using hnone
      obtain ⟨hframe, hline, honly, hposts⟩ := release_waits hhead hok howned hnone
      rw [hcalendar, hends] at hframe
      rw [hmeeting] at honly
      refine ⟨_, hexec, rfl, hframe, ?_, ?_, ?_⟩
      · rw [hpasses]; exact hline
      · rw [hpasses]; exact honly
      · rw [hpasses, Bool.false_and, if_neg Bool.false_ne_true, List.append_nil]
        exact postedAll_of_samePosts hposts
  · intro x before after hsettled hstate hreason hhead hnone hreports concerns hbefore hx hafter y
    have hconcerns (z : Report) (hz : z.stream = n) : concernsRelease s.dev z = true ↔ concerns z :=
      (concernsRelease_iff hz hstate hreason hhead).trans (by simp [concerns, hz, m])
    obtain ⟨hframe, hline, honly, hposts⟩ := completeRelease_does (d := { s.dev with reports := after }) hhead
    have hposted := postedIf_of_samePosts hposts
    have htarget : (y.consumed s.dev.threshold).resumed.target = y.target := Stream.consumed_target ..
    change PostedIf _ (y.consumed s.dev.threshold).resumed.target _ _ _ at hposted
    rw [htarget] at hposted
    exact ⟨_, releaseComplete_takes hsettled hstate hreason hhead ((hmeeting s.dev).trans hnone) hreports hbefore hx.1
      ((hconcerns x hx.1).mpr hx) (fun z hz hzn => Bool.eq_false_of_not_eq_true fun h => hafter z hz ((hconcerns z hzn).mp h)),
      rfl, hframe, hline, honly, hposted⟩

end Sys2Proof.Machine
end

section
/-! SUPPORT. CANCEL: its drives, the patterns and entries that it removes, and its completions (3.8, 6.6). -/

namespace Sys2Proof.Machine

/-! ## The rest levels of removed work -/

/-- The removal of an entry drives its lines: its END was pending, or its pattern was PLAYING (R62, R63). -/
def drivesAtRest (d : Device) (e : Entry) : Bool :=
  endPending e || (e.kind == .patternStep && e.player.any (fun p => (d.player p).state == .playing))

/-- The rest level that it drives on a line. -/
def restLevel (e : Entry) (l : LineId) : Bool := if endPending e then !inMask e.levels l else inMask e.levels l

theorem drivesAtRest_congr {d d' : Device} (h : d'.players = d.players) (e : Entry) :
    drivesAtRest d' e = drivesAtRest d e := by
  have hplayer (p : PlayerId) : d'.player p = d.player p := congrArg (·.get p) h
  simp only [drivesAtRest, hplayer]

theorem inMask_not (m : Mask) (l : LineId) : inMask (~~~m) l = !inMask m l := by
  simp [inMask]

/-- The removal of an entry drives its rest levels, or nothing. -/
theorem cancelDrive_eq (e : Entry) (d : Device) : cancelDrive e d =
    if drivesAtRest d e then applyDrive e.lines (if endPending e then ~~~e.levels else e.levels) d else d := by
  unfold cancelDrive drivesAtRest
  cases endPending e with
  | true => simp
  | false =>
    cases e.kind <;> cases e.player <;> simp

theorem cancelDrive_frame (e : Entry) (d : Device) :
    cancelDrive e d = { d with lines := (cancelDrive e d).lines } := by
  rw [cancelDrive_eq]
  split
  · exact applyDrive_frame ..
  · rfl

/-- Each line as the removal of one entry leaves it (R63, R74). -/
theorem cancelDrive_line (e : Entry) (d : Device) (l : LineId) : (cancelDrive e d).line l = { d.line l with
    out := if (d.line l).mode = .output ∧ inMask e.lines l = true ∧ drivesAtRest d e = true
      then restLevel e l else (d.line l).out } := by
  rw [cancelDrive_eq]
  cases hdrives : drivesAtRest d e with
  | false => simp
  | true =>
    have hlevel : inMask (if endPending e then ~~~e.levels else e.levels) l = restLevel e l := by
      unfold restLevel; split <;> simp only [inMask_not]
    generalize (if endPending e then ~~~e.levels else e.levels) = levels at hlevel
    rw [if_pos rfl, driven_applyDrive]
    by_cases hline : inMask e.lines l = true ∧ (d.line l).mode = .output
    · rw [if_pos hline, if_pos ⟨hline.2, hline.1, rfl⟩, hlevel]
    · rw [if_neg hline, if_neg fun h => hline ⟨h.2.1, h.1⟩]

/-- What the removal of several entries drives, one after another. -/
def cancelDrives (es : List Entry) (d : Device) : Device := es.foldl (fun d e => cancelDrive e d) d

theorem cancelDrives_frame (es : List Entry) (d : Device) :
    cancelDrives es d = { d with lines := (cancelDrives es d).lines } := by
  induction es generalizing d with
  | nil => rfl
  | cons e es ih =>
    refine (ih (cancelDrive e d)).trans ?_
    change _ = { d with lines := (cancelDrives es (cancelDrive e d)).lines }
    generalize cancelDrives es (cancelDrive e d) = y
    rw [cancelDrive_frame]

theorem cancelDrives_players (es : List Entry) (d : Device) : (cancelDrives es d).players = d.players := by
  rw [cancelDrives_frame]

theorem cancelDrives_line (es : List Entry) (d : Device) (l : LineId) :
    (cancelDrives es d).line l = { d.line l with out := ((cancelDrives es d).line l).out } := by
  induction es generalizing d with
  | nil => rfl
  | cons e es ih =>
    refine (ih (cancelDrive e d)).trans ?_
    change _ = { d.line l with out := ((cancelDrives es (cancelDrive e d)).line l).out }
    rw [cancelDrive_line]

/-- A line that no removed entry drives keeps its level. -/
theorem cancelDrives_out_of_none {es : List Entry} {d : Device} {l : LineId}
    (h : (d.line l).mode ≠ .output ∨ ∀ e ∈ es, (inMask e.lines l && drivesAtRest d e) = false) :
    ((cancelDrives es d).line l).out = (d.line l).out := by
  induction es generalizing d with
  | nil => rfl
  | cons e es ih =>
    have hplayers : (cancelDrive e d).players = d.players := by rw [cancelDrive_frame]
    have hout : ((cancelDrive e d).line l).out = (d.line l).out := by
      rw [cancelDrive_line]
      refine if_neg fun ⟨hmode, hline, hdrives⟩ => ?_
      rcases h with h | h
      · exact h hmode
      · have hnot := h e (List.mem_cons_self ..)
        rw [hline, hdrives] at hnot
        cases hnot
    refine (ih ?_).trans hout
    rcases h with h | h
    · exact .inl (by rw [cancelDrive_line]; exact h)
    · exact .inr fun x hx => by rw [drivesAtRest_congr hplayers]; exact h x (List.mem_cons_of_mem _ hx)

/-- Among the removed entries that drive an OUTPUT line the last one's rest level stands (R63). -/
theorem cancelDrives_out_of_last {before after : List Entry} {e : Entry} {d : Device} {l : LineId}
    (hmode : (d.line l).mode = .output) (hline : inMask e.lines l = true) (hdrives : drivesAtRest d e = true)
    (hafter : ∀ x ∈ after, (inMask x.lines l && drivesAtRest d x) = false) :
    ((cancelDrives (before ++ e :: after) d).line l).out = restLevel e l := by
  have hsplit : cancelDrives (before ++ e :: after) d = cancelDrives after (cancelDrive e (cancelDrives before d)) :=
    List.foldl_append
  have hplayers : (cancelDrive e (cancelDrives before d)).players = d.players := by
    rw [cancelDrive_frame]; exact cancelDrives_players ..
  have hmode' : ((cancelDrives before d).line l).mode = .output := by rw [cancelDrives_line]; exact hmode
  rw [hsplit, cancelDrives_out_of_none (.inr fun x hx => by rw [drivesAtRest_congr hplayers]; exact hafter x hx),
    cancelDrive_line]
  exact if_pos ⟨hmode', hline, (drivesAtRest_congr (cancelDrives_players before d) e).trans hdrives⟩

/-! ## The patterns of removed entries -/

/-- The entry's pattern is that of the player (6.2). -/
def playedBy (p : PlayerId) (e : Entry) : Bool := e.kind == .patternStep && e.player == some p

theorem endedPlayer_endedPlayer (x : Player) : endedPlayer (endedPlayer x) = endedPlayer x := by
  unfold endedPlayer
  cases x.request <;> rfl

theorem cancelPattern_frame (e : Entry) (d : Device) :
    cancelPattern e d = { d with players := (cancelPattern e d).players } := by
  unfold cancelPattern; split <;> rfl

theorem cancelPattern_player (e : Entry) (d : Device) (p : PlayerId) :
    (cancelPattern e d).player p = if playedBy p e then endedPlayer (d.player p) else d.player p := by
  unfold cancelPattern playedBy
  split
  next q hkind hplayer =>
    rw [endPattern, Device.modPlayer_player, hkind, hplayer]
    by_cases hp : p = q
    · subst hp; simp
    · have hq : q ≠ p := fun h => hp h.symm
      simp [hp, hq]
  next h =>
    refine (if_neg fun hplayed => ?_).symm
    obtain ⟨hkind, hplayer⟩ := Bool.and_eq_true_iff.mp hplayed
    exact h p (beq_iff_eq.mp hkind) (beq_iff_eq.mp hplayer)

/-- The patterns of several removed entries end (R112). -/
def cancelPatterns (es : List Entry) (d : Device) : Device := es.foldl (fun d e => cancelPattern e d) d

theorem cancelPatterns_frame (es : List Entry) (d : Device) :
    cancelPatterns es d = { d with players := (cancelPatterns es d).players } := by
  induction es generalizing d with
  | nil => rfl
  | cons e es ih =>
    refine (ih (cancelPattern e d)).trans ?_
    change _ = { d with players := (cancelPatterns es (cancelPattern e d)).players }
    generalize cancelPatterns es (cancelPattern e d) = y
    rw [cancelPattern_frame]

theorem cancelPatterns_lines (es : List Entry) (d : Device) : (cancelPatterns es d).lines = d.lines := by
  rw [cancelPatterns_frame]

theorem cancelPatterns_player (es : List Entry) (d : Device) (p : PlayerId) :
    (cancelPatterns es d).player p = if es.any (playedBy p) then endedPlayer (d.player p) else d.player p := by
  induction es generalizing d with
  | nil => rfl
  | cons e es ih =>
    refine (ih (cancelPattern e d)).trans ?_
    rw [cancelPattern_player, List.any_cons]
    cases playedBy p e
    · rfl
    · cases es.any (playedBy p)
      · rfl
      · exact endedPlayer_endedPlayer _

/-! ## The entries of the calendar -/

/-- What the removal of a CANCEL's selected entries leaves of the calendar, the reports, lines and players (R61 to R63). -/
theorem cancelWork_does (n : StreamId) (r : Record) (d : Device) :
    let removed := d.calendar.filter (cancelRemoves n r)
    let w := cancelWork n r d
    w = { d with
      calendar := (d.calendar.filter (fun e => !cancelRemoves n r e)).map
        (fun e => if cancelKeeps n r e then finishKept e else e),
      reports := d.reports ++ removed.map reportOf, lines := w.lines, players := w.players } ∧
    (∀ l, w.line l = (cancelDrives removed d).line l) ∧
    (∀ p, w.player p = if removed.any (playedBy p) then endedPlayer (d.player p) else d.player p) := by
  intro removed w
  let u := cancelPatterns removed (cancelDrives removed d)
  have hu : u = { d with lines := u.lines, players := u.players } := by
    have hlines : u.lines = (cancelDrives removed d).lines :=
      cancelPatterns_lines ..
    refine (cancelPatterns_frame removed (cancelDrives removed d)).trans ?_
    rw [hlines]
    generalize u.players = y
    conv_lhs => rw [cancelDrives_frame]
  have hw : w = { removeEntries (cancelRemoves n r) u with
      calendar := (removeEntries (cancelRemoves n r) u).calendar.map
        (fun e => if cancelKeeps n r e then finishKept e else e) } := cancelWork_eq ..
  have hlines : w.lines = u.lines := by rw [hw]; rfl
  have hplayers : w.players = u.players := by rw [hw]; rfl
  refine ⟨?_, fun l => ?_, fun p => ?_⟩
  · rw [hlines, hplayers, hw]
    change { u with
      calendar := (u.calendar.filter (fun e => !cancelRemoves n r e)).map
        (fun e => if cancelKeeps n r e then finishKept e else e),
      reports := u.reports ++ (u.calendar.filter (cancelRemoves n r)).map reportOf } = _
    have hcalendar : u.calendar = d.calendar := by rw [hu]
    have hreports : u.reports = d.reports := by rw [hu]
    rw [hcalendar, hreports]
    conv_lhs => rw [hu]
  · have hline : w.line l = u.line l := congrArg (·.get l) hlines
    have hlinesU : u.lines = (cancelDrives removed d).lines :=
      cancelPatterns_lines ..
    exact hline.trans (congrArg (·.get l) hlinesU)
  · have hplayer : w.player p = u.player p := congrArg (·.get p) hplayers
    have hbefore : (cancelDrives removed d).player p = d.player p :=
      congrArg (·.get p) (cancelDrives_players removed d)
    rw [hplayer, show u.player p = _ from cancelPatterns_player removed _ p, hbefore]

/-- The end entries of the calendar are as they were for the captures that a CANCEL ends (R61). -/
theorem ends_of_cancelWork (n : StreamId) (r : Record) (l : LineId) (es : List Entry) :
    ((es.map (fun e => if cancelKeeps n r e then finishKept e else e)).filter (isEndEntryOf l)).map reportOf =
      (es.filter (isEndEntryOf l)).map reportOf := by
  have hend : isEndEntryOf l ∘ (fun e => if cancelKeeps n r e then finishKept e else e) = isEndEntryOf l := by
    funext e; simp only [Function.comp_apply]; split <;> rfl
  have hreport : reportOf ∘ (fun e => if cancelKeeps n r e then finishKept e else e) = reportOf := by
    funext e; simp only [Function.comp_apply]; split <;> rfl
  rw [List.filter_map, List.map_map, hend, hreport]

end Sys2Proof.Machine
end

section
/-! SUPPORT. The claim about CANCEL (3.8, 6.6). -/

namespace Sys2Proof.Machine

/-- The CANCELLED of a removed entry, with its extra fields; `x` the context of its stream (R64). -/
def cancelledNotice (n : StreamId) (x : Stream) (now : Time) (e : Entry × (W32 × W32)) : CqId × Completion :=
  (x.target, plainCompletion (.stream n) (entryKindCode e.1.kind) .cancelled e.1.tag now (lowestLine e.1.lines) x.head
    e.2.1 e.2.2)

/-- The CANCELLED of several removed entries are posts of their stream's (R64). -/
theorem postCancelled_eq_postAll (n : StreamId) (owed : List (Entry × (W32 × W32))) (d : Device) :
    owed.foldl (fun d x => postCancelled n x.1 x.2 d) d =
      postAll (owed.map (cancelledNotice n (d.stream n) d.tb.now)) d := by
  induction owed generalizing d with
  | nil => rfl
  | cons x owed ih =>
    have hpost : postCancelled n x.1 x.2 d =
      post (d.stream n).target (cancelledNotice n (d.stream n) d.tb.now x).2 d := rfl
    have htb : (postCancelled n x.1 x.2 d).tb = d.tb := by rw [hpost, post_frame]
    have hstream : (postCancelled n x.1 x.2 d).stream n = d.stream n := by rw [hpost, post_frame]; rfl
    rw [List.foldl_cons, ih, htb, hstream]
    rfl

/-- A final completion posted when its record asks for it (R42). -/
theorem postNotified_eq (n : StreamId) (r : Record) (status : Status) (time : Time) (line : Nat) (x1 x2 : W32)
    (d : Device) : postNotified n r status time line x1 x2 d =
      postAll (notices n r status time line x1 x2 (d.stream n)) d := by
  rw [notices, postAll_postsIf]; rfl

/-- The CAPTURE_DONE that a capture of the stream's is owed; `x` the context of the stream (R64, R89). -/
def captureNotice (n : StreamId) (x : Stream) (d : Device) (l : LineId) : List (CqId × Completion) :=
  match (d.line l).capture with
  | some c => if c.notify then [(x.target, plainCompletion (.stream n) 0x07 .captureDone c.tag d.tb.now l.val x.head
      (sat32 c.captured) (sat32 c.missed))] else []
  | none => []

/-- What the end of a capture posts is read off the context of its stream. -/
theorem capturesDone_of_stream {n : StreamId} {x : Stream} {d p : Device} {l : LineId}
    (hcapture : (p.line l).capture = (d.line l).capture) (htb : p.tb = d.tb) (hp : p.stream n = x)
    (hn : ∀ c, (d.line l).capture = some c → c.stream = n) : capturesDone p l = captureNotice n x d l := by
  unfold capturesDone captureNotice
  rw [hcapture, htb]
  cases hc : (d.line l).capture with
  | none => rfl
  | some c =>
    dsimp only
    rw [hn c hc, hp]

/-- The completions of a CANCEL, in the order of R64; `x` the context of its stream after the consumption. -/
def cancelNotices (n : StreamId) (r : Record) (x : Stream) (d : Device) : List (CqId × Completion) :=
  ((((d.calendar.filter (cancelRemoves n r)).filter cancelOwed).map (fun e => (e, cancelExtras d e))).map
      (cancelledNotice n x d.tb.now) ++ (cancelCaptures n r d).flatMap (captureNotice n x d)) ++
    notices n r .cancelDone d.tb.now 0
      (sat32 (((d.calendar.filter (cancelRemoves n r)).filter countedAtStop).length + (cancelCaptures n r d).length))
      (sat32 (d.calendar.filter (cancelKeeps n r)).length) x

/-- The captures that a CANCEL selects are open. -/
theorem mem_cancelCaptures {n : StreamId} {r : Record} {d : Device} {l : LineId} : l ∈ cancelCaptures n r d ↔
    (d.line l).capture.any (fun c => c.stream == n && tagMatch c.tag (StreamRecord.tag r) (StreamRecord.short r)) = true := by
  simp [cancelCaptures, mem_allLines]

/-- What a CANCEL leaves (R61 to R64). -/
theorem admitCancel_does {n : StreamId} {r : Record} {d : Device} (hhead : (d.stream n).buffer.head? = some r)
    (hok : fieldsOk .cancel r = true) :
    let x := (d.stream n).consumed d.threshold
    let w := cancelWork n r d
    let captures := cancelCaptures n r d
    let d' := admitCancel n d
    d' = { w with
      calendar := w.calendar.filter (fun e => !captures.any (fun l => isEndEntryOf l e)),
      reports := w.reports ++ captures.flatMap (fun l => (w.calendar.filter (isEndEntryOf l)).map reportOf),
      lines := d'.lines, streams := d'.streams, holding := d'.holding, queues := d'.queues } ∧
    OnlyStream n x d d' ∧
    (∀ l, d'.line l = if l ∈ captures then { w.line l with capture := none } else w.line l) ∧
    SamePosts d' (postAll (cancelNotices n r x d) d) := by
  intro x w captures d'
  obtain ⟨hw, hwline, -⟩ := cancelWork_does n r d
  have hwtb : w.tb = d.tb := by rw [show w = _ from hw]
  have hwthreshold : w.threshold = d.threshold := by rw [show w = _ from hw]
  have hwstream (k : StreamId) : w.stream k = d.stream k := by rw [show w = _ from hw]; rfl
  let owed := ((d.calendar.filter (cancelRemoves n r)).filter cancelOwed).map (fun e => (e, cancelExtras d e))
  let v := w.modStream n (Stream.consumed d.threshold)
  have hvn : v.stream n = x := by rw [Device.modStream_stream_self, hwstream]
  let p := postAll (owed.map (cancelledNotice n x d.tb.now)) v
  have hp : p = { v with holding := p.holding, queues := p.queues } := postAll_frame ..
  have hpline (l : LineId) : p.line l = w.line l := by rw [hp]; rfl
  have hpstream (k : StreamId) : p.stream k = v.stream k := by rw [hp]; rfl
  have hptb : p.tb = d.tb := by rw [hp]; exact hwtb
  have hwcapture (l : LineId) : (w.line l).capture = (d.line l).capture := by
    rw [show w.line l = _ from hwline l, cancelDrives_line]
  have hopen : ∀ l ∈ captures, (p.line l).capture.isSome = true := fun l hl => by
    rw [hpline, hwcapture]
    exact Option.isSome_of_any (mem_cancelCaptures.mp hl)
  obtain ⟨hframe, hline, hposts⟩ := endCaptures_does captures (nodup_allLines.filter _) p hopen
  generalize hq : captures.foldl (fun d l => endCapture l d) p = q at hframe hline hposts
  have hqtb : q.tb = d.tb := by rw [hframe]; exact hptb
  have hqn : q.stream n = x := by rw [hframe]; exact (hpstream n).trans hvn
  let final := notices n r .cancelDone d.tb.now 0
      (sat32 (((d.calendar.filter (cancelRemoves n r)).filter countedAtStop).length + captures.length))
      (sat32 (d.calendar.filter (cancelKeeps n r)).length) x
  have hd' : d' = postAll final q := by
    have hposted : owed.foldl (fun d x => postCancelled n x.1 x.2 d) (consume n w) = p := by
      rw [consume_eq_modStream, hwthreshold, postCancelled_eq_postAll]
      change postAll (owed.map (cancelledNotice n (v.stream n) v.tb.now)) v = p
      rw [hvn, show v.tb = d.tb from hwtb]
    rw [show d' = admitCancel n d from rfl, admitCancel, headRecord_of_head? hhead, hok]
    dsimp only
    rw [Bool.not_true, if_neg Bool.false_ne_true, show List.foldl _ (consume n (cancelWork n r d)) _ = p from hposted,
      show List.foldl _ p _ = q from hq, postNotified_eq, hqtb, hqn]
  have hleft : d' = { q with holding := d'.holding, queues := d'.queues } := by rw [hd']; exact postAll_frame ..
  refine ⟨?_, fun k => ?_, fun l => ?_, ?_⟩
  · have hlines : d'.lines = q.lines := by rw [hleft]
    have hstreams : d'.streams = q.streams := by rw [hleft]
    rw [hlines, hstreams]
    refine hleft.trans ?_
    generalize d'.holding = h1
    generalize d'.queues = h2
    have hqs : q.streams = p.streams := by rw [hframe]
    rw [hqs]
    conv_lhs => rw [hframe]
    have hpc : p.calendar = w.calendar := by rw [hp]; rfl
    have hpr : p.reports = w.reports := by rw [hp]; rfl
    rw [hpc, hpr]
    generalize q.lines = h3
    generalize p.streams = h4
    conv_lhs => rw [hp]
    rfl
  · have hk : d'.stream k = v.stream k := by
      rw [hleft]; exact (congrArg (·.get k) (show q.streams = p.streams by rw [hframe])).trans (hpstream k)
    rw [hk, Device.modStream_stream, hwstream, hwstream]
  · have hl : d'.line l = q.line l := by rw [hleft]; rfl
    rw [hl, hline l, hpline]
  · have hvd : SamePosts v d :=
      have hholding : w.holding = d.holding := by rw [show w = _ from hw]
      have hqueues : w.queues = d.queues := by rw [show w = _ from hw]
      ⟨hholding, hqueues, congrArg Timebase.now hwtb⟩
    have hcapture : captures.flatMap (capturesDone p) = captures.flatMap (captureNotice n x d) :=
      List.flatMap_congr fun l hl => capturesDone_of_stream (by rw [hpline, hwcapture]) hptb ((hpstream n).trans hvn)
        fun c hc => by
          have hany := mem_cancelCaptures.mp hl
          rw [hc, Option.any_some, Bool.and_eq_true, beq_iff_eq] at hany
          exact hany.1
    rw [hd', cancelNotices, postAll_append, postAll_append, ← hcapture]
    exact (hposts.trans ((hvd.postAll _).postAll _)).postAll _

/-- The command CANCEL of a stream that admits one (log 32). -/
theorem exec_cancel_of_admits {s : State} {n : StreamId} {r : Record} (h : AdmitsFor allButGrant s n .cancel r) :
    exec (.cancel n) s = .next { s with dev := admitCancel n s.dev } := by
  obtain ⟨⟨hreset, hcalm⟩, hrun, hhead, hkind, -⟩ := h
  have hadmits : whenAdmits n (some .cancel) (admitCancel n) s.dev = admitCancel n s.dev :=
    if_pos (admits_of_head hrun hhead hkind)
  exact (withdrawalEvent_of_calm hreset hcalm).trans (by rw [hadmits])

/-- Settles O43. -/
theorem cancelEndsSelectedWork : Obligations.CancelEndsSelectedWork := by
  unfold Obligations.CancelEndsSelectedWork
  intro s n r hadmits matched selected ending kept removed playing ends endOf x extras say
  have ⟨_, _, hhead, hkind, hok⟩ := hadmits
  obtain ⟨hw, hwline, hwplayer⟩ := cancelWork_does n r s.dev
  obtain ⟨hframe, honly, hline, hposts⟩ := admitCancel_does hhead hok
  have hkept : cancelKeeps n r = kept := by
    funext e; exact Bool.and_assoc ..
  have hremoves : cancelRemoves n r = fun e => selected e && !kept e := by
    funext e; rw [cancelRemoves, hkept]; rfl
  have hcaptures : cancelCaptures n r s.dev = allLines.filter ends := rfl
  have hmem (l : LineId) : l ∈ allLines.filter ends ↔ ends l = true := by simp [mem_allLines]
  have hremoved : s.dev.calendar.filter (cancelRemoves n r) = removed := by rw [hremoves]
  have hlineOf (l : LineId) : (admitCancel n s.dev).line l = { (cancelDrives removed s.dev).line l with
      capture := if ends l then none else (s.dev.line l).capture } := by
    rw [hline l, hwline l, hremoved, hcaptures]
    by_cases hl : ends l = true
    · rw [if_pos ((hmem l).mpr hl), if_pos hl]
    · rw [if_neg fun h => hl ((hmem l).mp h), if_neg hl, cancelDrives_line]
  refine ⟨_, exec_cancel_of_admits hadmits, rfl, ?_, honly, fun l => ?_, fun l h => ?_, ?_, fun p => ?_, ?_⟩
  · have hcalendar : (cancelWork n r s.dev).calendar = (s.dev.calendar.filter (fun e => !(selected e && !kept e))).map
        (fun e => if kept e then finishKept e else e) := by rw [hw, hremoves, hkept]
    have hreports : (cancelWork n r s.dev).reports = s.dev.reports ++ removed.map reportOf := by rw [hw, hremoved]
    have hplayers : (admitCancel n s.dev).players = (cancelWork n r s.dev).players := by rw [hframe]
    have hends : (cancelCaptures n r s.dev).flatMap
          (fun l => ((cancelWork n r s.dev).calendar.filter (isEndEntryOf l)).map reportOf) =
        (allLines.filter ends).flatMap (fun l =>
          (s.dev.calendar.filter (fun e => !(selected e && !kept e) && endOf l e)).map reportOf) := by
      refine List.flatMap_congr fun l _ => ?_
      rw [hcalendar, ← hkept, ends_of_cancelWork, List.filter_filter]
      congr 2
      funext e
      exact Bool.and_comm ..
    have hany : (fun e => !(cancelCaptures n r s.dev).any (fun l => isEndEntryOf l e)) =
        fun e => !(allLines.any (fun l => ends l && endOf l e)) := by
      funext e
      rw [hcaptures, List.any_filter]
      rfl
    refine hframe.trans ?_
    rw [hends, hany, hcalendar, hreports, hplayers]
    generalize (admitCancel n s.dev) = y
    conv_lhs => rw [hw]
    rfl
  · rw [hlineOf l, cancelDrives_line]
  · rw [hlineOf l]
    exact cancelDrives_out_of_none h
  · intro l before e after hmode hsplit hin hafter
    have hlast (hdrives : drivesAtRest s.dev e = true) :
        ((admitCancel n s.dev).line l).out = restLevel e l := by
      rw [hlineOf l, hsplit]
      exact cancelDrives_out_of_last hmode hin hdrives hafter
    refine ⟨fun hending => ?_, fun hplaying => ?_⟩
    · rw [hlast (by rw [drivesAtRest, show endPending e = true from hending, Bool.true_or])]
      exact if_pos hending
    · have hnot : endPending e = false := by
        have hkind : e.kind = .patternStep := beq_iff_eq.mp (Bool.and_eq_true_iff.mp hplaying).1
        rw [endPending, hkind]; rfl
      rw [hlast (by rw [drivesAtRest, hnot]; exact hplaying), restLevel, hnot]
      rfl
  · have hplayers : (admitCancel n s.dev).player p = (cancelWork n r s.dev).player p :=
      congrArg (·.get p) (show (admitCancel n s.dev).players = _ by rw [hframe])
    rw [hplayers, hwplayer p, hremoved]
    rfl
  · have hwork : removed.filter countedAtStop = removed.filter (fun e => e.kind != .captureEnd) := by
      refine List.filter_congr fun e he => ?_
      have hselected := (Bool.and_eq_true_iff.mp (List.mem_filter.mp he).2).1
      have harm : (e.kind != .armDeadline) = true := (Bool.and_eq_true_iff.mp (Bool.and_eq_true_iff.mp hselected).1).2
      rw [countedAtStop, harm, Bool.and_true]
    rw [cancelNotices, hremoved, hkept, hcaptures, hwork, notices, kind_of_streamKind hkind, List.map_map] at hposts
    exact postedAll_of_samePosts hposts

end Sys2Proof.Machine
end

section
/-! SUPPORT. START, STOP and the passage to IDLE (7.6, 7.7). -/

namespace Sys2Proof.Machine

/-! ## The patterns that a STOP ends -/

/-- The player has a pattern of the stream (R132). -/
def patternOf (n : StreamId) (pl : Player) : Bool := hasPattern pl && pl.stream == some n

/-- A player after the end of the stream's patterns (R112). -/
def Player.stoppedBy (n : StreamId) (pl : Player) : Player := if patternOf n pl then endedPlayer pl else pl

theorem mem_allPlayers (p : PlayerId) : p ∈ allPlayers := by revert p; decide

theorem nodup_allPlayers : allPlayers.Nodup := by decide

/-- Players visited one after another, each changed by itself. -/
theorem foldl_players {g : Player → Player} (f : Device → PlayerId → Device)
    (hf : ∀ d p q, (f d p).player q = if q = p then g (d.player p) else d.player q) (ps : List PlayerId) (hps : ps.Nodup)
    (d : Device) (q : PlayerId) : (ps.foldl f d).player q = if q ∈ ps then g (d.player q) else d.player q := by
  induction ps generalizing d with
  | nil => rfl
  | cons p ps ih =>
    obtain ⟨hp, hps⟩ := List.nodup_cons.mp hps
    rw [List.foldl_cons, ih hps, hf]
    by_cases hq : q = p
    · subst hq; simp [hp]
    · simp [hq]

theorem endPatternsOf_player (n : StreamId) (d : Device) (p : PlayerId) :
    (endPatternsOf n d).player p = (d.player p).stoppedBy n := by
  refine (foldl_players (g := Player.stoppedBy n) _ (fun d p q => ?_) allPlayers nodup_allPlayers d p).trans
    (if_pos (mem_allPlayers p))
  by_cases hp : patternOf n (d.player p) = true
  · change (if patternOf n (d.player p) then endPattern p d else d).player q = _
    rw [if_pos hp, endPattern, Device.modPlayer_player, Player.stoppedBy, if_pos hp]
  · change (if patternOf n (d.player p) then endPattern p d else d).player q = _
    rw [if_neg hp, Player.stoppedBy, if_neg hp]
    by_cases hq : q = p
    · rw [if_pos hq, hq]
    · rw [if_neg hq]

/-! ## The teardown of a STOP -/

/-- A line after the teardown of a stream (R132): its capture ended, and given up at its safe level. -/
def Line.stoppedBy (n : StreamId) (x : Line) : Line :=
  { x with capture := if x.capture.any (fun c => c.stream == n) then none else x.capture,
           owner := if x.owner = some n then none else x.owner,
           out := if x.owner = some n ∧ x.mode = .output then x.safe else x.out }

/-- The two changes of a line in the teardown, its capture's end and its giving up, come to one. -/
theorem Line.stoppedBy_eq (n : StreamId) (x : Line) :
    (let y : Line := if x.capture.any (fun c => c.stream == n) then { x with capture := none } else x
     if y.owner == some n then { y with owner := none, out := if y.mode = .output then y.safe else y.out } else y) =
      x.stoppedBy n := by
  unfold Line.stoppedBy
  cases x.capture.any (fun c => c.stream == n) <;> by_cases howner : x.owner = some n <;> simp [howner]

/-- The context of a stream after its teardown (R132). -/
def Stream.tornDown (work : Nat) (lines : Mask) (x : Stream) : Stream :=
  { x with state := .stopping, reason := .noWait, buffer := [], request := withdraw x.request, armWait := none,
           stopCount := work, stopLines := lines }

/-- Lines and a stream changed around the end of players: what stands is what each has changed. -/
theorem frame_of_teardown {d v p : Device} {f : LineId → Line → Line} {n : StreamId} {g h : Stream → Stream}
    (hp : p = { (v.mapLines f).modStream n g with players := p.players }) (k : LineId → Line → Line)
    (hv : v = { d with calendar := v.calendar, reports := v.reports }) :
    let d' := (p.mapLines k).modStream n h
    d' = { d with calendar := v.calendar, reports := v.reports, lines := d'.lines, players := p.players,
                  streams := d'.streams } := by
  intro d'
  have hmap (e : Device) : e.mapLines k = { e with lines := (e.mapLines k).lines } := mapLines_frame k e
  have hd' : d' = { p with lines := d'.lines, streams := d'.streams } := by
    change (p.mapLines k).modStream n h = { p with lines := d'.lines, streams := d'.streams }
    generalize hx : p.mapLines k = x
    have hxp : x = { p with lines := x.lines } := by rw [← hx]; exact hmap p
    have hl : d'.lines = x.lines := by rw [← hx]; rfl
    have hs : d'.streams = (x.modStream n h).streams := by rw [← hx]
    rw [hl, hs]
    generalize hst : (x.modStream n h).streams = st
    have : x.modStream n h = { x with streams := st } := by rw [← hst]; rfl
    rw [this]
    conv_lhs => rw [hxp]
  generalize hL : d'.lines = L at hd'
  generalize hS : d'.streams = S at hd'
  rw [hd']
  generalize hP : p.players = P at hp
  rw [hp]
  have hw : (v.mapLines f) = { v with lines := (v.mapLines f).lines } := mapLines_frame f v
  generalize v.mapLines f = w at hw
  change { w with players := P, lines := L, streams := S } = _
  rw [hw]
  generalize hc : v.calendar = C at hv
  generalize hr : v.reports = R at hv
  rw [hv]

theorem line_of_players {p w : Device} (hp : p = { w with players := p.players }) (l : LineId) : p.line l = w.line l := by
  rw [hp]; rfl

theorem stream_of_players {p w : Device} (hp : p = { w with players := p.players }) (n : StreamId) :
    p.stream n = w.stream n := by
  rw [hp]; rfl

/-- What the teardown of a stream leaves, without a completion (R132). -/
theorem tearDown_does (n : StreamId) (d : Device) :
    let d' := tearDown n d
    d' = { d with
      calendar := d.calendar.filter (fun e => e.stream != n),
      reports := d.reports ++ (d.calendar.filter (fun e => e.stream == n)).map reportOf,
      lines := d'.lines, players := d'.players, streams := d'.streams } ∧
    (∀ l, d'.line l = (d.line l).stoppedBy n) ∧ (∀ p, d'.player p = (d.player p).stoppedBy n) ∧
    OnlyStream n ((d.stream n).tornDown (stopWork d n) (ownedLines d n)) d d' := by
  intro d'
  let v := removeEntries (fun e => e.stream == n) d
  let f : LineId → Line → Line := fun _ x => if x.capture.any (fun c => c.stream == n) then { x with capture := none } else x
  let g : Stream → Stream := fun x => { x with armWait := none }
  let p := endPatternsOf n ((v.mapLines f).modStream n g)
  let k : LineId → Line → Line := fun _ x =>
    if x.owner == some n then { x with owner := none, out := if x.mode = .output then x.safe else x.out } else x
  let h : Stream → Stream := fun x => { x with
    state := .stopping, reason := .noWait, buffer := [], request := withdraw x.request, stopCount := stopWork d n,
    stopLines := ownedLines d n }
  have hd' : d' = (p.mapLines k).modStream n h := tearDown_eq n d
  have hp : p = { (v.mapLines f).modStream n g with players := p.players } := endPatternsOf_frame ..
  have hwline (l : LineId) : ((v.mapLines f).modStream n g).line l = f l (d.line l) := by
    rw [Device.modStream_line, Device.mapLines_line]
    exact congrArg (f l) rfl
  have hwstream (m : StreamId) : ((v.mapLines f).modStream n g).stream m = if m = n then g (d.stream n) else d.stream m :=
    (Device.modStream_stream (v.mapLines f) n m g).trans (by rw [Device.mapLines_stream, Device.mapLines_stream]; rfl)
  have hwplayer (q : PlayerId) : ((v.mapLines f).modStream n g).player q = d.player q :=
    (Device.modStream_player ..).trans (Device.mapLines_player ..)
  have hpplayer (q : PlayerId) : p.player q = (d.player q).stoppedBy n :=
    (endPatternsOf_player ..).trans (by rw [hwplayer])
  have hframe := frame_of_teardown (h := h) hp k (d := d) rfl
  have hplayers : d'.players = p.players := by
    rw [hd', Device.modStream_players, Device.mapLines_players]
  refine ⟨?_, fun l => ?_, fun q => ?_, fun m => ?_⟩
  · rw [← hd'] at hframe
    rw [hplayers]
    exact hframe
  · have hpline : p.line l = f l (d.line l) := by
      rw [← hwline l]; exact line_of_players hp l
    rw [hd', Device.modStream_line, Device.mapLines_line, hpline]
    exact Line.stoppedBy_eq n (d.line l)
  · have hq : d'.player q = p.player q := congrArg (·.get q) hplayers
    rw [hq, hpplayer]
  · have hpstream (m : StreamId) : p.stream m = if m = n then g (d.stream n) else d.stream m := by
      rw [← hwstream m]; exact stream_of_players hp m
    rw [hd', Device.modStream_stream, Device.mapLines_stream, Device.mapLines_stream, hpstream, hpstream, if_pos rfl]
    split <;> rfl

/-! ## STOP -/

/-- The context of a stream after its passage to IDLE (R133). -/
def Stream.idled (x : Stream) : Stream :=
  { x with state := .idle, reason := .noWait, head := 0, tail := 0, buffer := [], stopCount := 0, stopLines := 0 }

/-- The STREAM_STOPPED of a stream (R133). -/
def stoppedNotice (n : StreamId) (x : Stream) (work : Nat) (lines : Mask) (now : Time) : CqId × Completion :=
  (x.target, plainCompletion (.stream n) 0 .streamStopped 0 now 0 x.head (sat32 work) lines)

/-- The passage to IDLE: STREAM_STOPPED, and the stream's context (R133). -/
theorem becomeIdle_eq (n : StreamId) (d : Device) : becomeIdle n d =
    (postAll [stoppedNotice n (d.stream n) (d.stream n).stopCount (d.stream n).stopLines d.tb.now] d).modStream n
      Stream.idled := rfl

/-- The context of a stream that a STOP ends, with what it ended (R132, R133). -/
def Stream.stopped (work : Nat) (lines : Mask) (x : Stream) : Stream :=
  if inFlight x.request then x.tornDown work lines else (x.tornDown work lines).idled

/-- The STREAM_STOPPED that a STOP posts at once, of a stream without a read in flight (R133). -/
def stopNotices (n : StreamId) (d : Device) : List (CqId × Completion) :=
  if inFlight (d.stream n).request then []
  else [stoppedNotice n (d.stream n) (stopWork d n) (ownedLines d n) d.tb.now]

theorem inFlight_withdraw (r : Request) : inFlight (withdraw r) = inFlight r := by cases r <;> rfl

theorem inFlight_eq_true_iff {r : Request} : inFlight r = true ↔ ∃ k, r = .inFlight k := by cases r <;> simp [inFlight]

/-- What a STOP of a stream that is RUNNING, WAITING or HALTED leaves (R132, R133). -/
theorem stopStream_does {n : StreamId} {d : Device} (hactive : (d.stream n).state = .running ∨
    (d.stream n).state = .waiting ∨ (d.stream n).state = .halted) :
    let d' := stopStream n d
    d' = { d with
      calendar := d.calendar.filter (fun e => e.stream != n),
      reports := d.reports ++ (d.calendar.filter (fun e => e.stream == n)).map reportOf,
      lines := d'.lines, players := d'.players, streams := d'.streams, holding := d'.holding, queues := d'.queues } ∧
    (∀ l, d'.line l = (d.line l).stoppedBy n) ∧ (∀ p, d'.player p = (d.player p).stoppedBy n) ∧
    OnlyStream n ((d.stream n).stopped (stopWork d n) (ownedLines d n)) d d' ∧
    SamePosts d' (postAll (stopNotices n d) d) := by
  intro d'
  have hd' : d' = if stopOver (tearDown n d) n then becomeIdle n (tearDown n d) else tearDown n d := by
    change stopStream n d = _
    unfold stopStream
    rcases hactive with h | h | h <;> rw [h]
  obtain ⟨hframe, hline, hplayer, honly⟩ := tearDown_does n d
  have hself := (honly n).trans (if_pos rfl)
  have hover : stopOver (tearDown n d) n = !inFlight (d.stream n).request := by
    rw [stopOver, hself]
    change (true && !inFlight (withdraw _)) = _
    rw [inFlight_withdraw, Bool.true_and]
  have hsame : SamePosts (tearDown n d) d := by rw [hframe]; exact ⟨rfl, rfl, rfl⟩
  rw [hover] at hd'
  cases hread : inFlight (d.stream n).request with
  | true =>
    rw [hread, Bool.not_true, if_neg Bool.false_ne_true] at hd'
    rw [hd', Stream.stopped, stopNotices, hread]
    refine ⟨?_, hline, hplayer, honly, hsame⟩
    have hholding : (tearDown n d).holding = d.holding := by rw [hframe]
    have hqueues : (tearDown n d).queues = d.queues := by rw [hframe]
    rw [hholding, hqueues]
    exact hframe
  | false =>
    rw [hread, Bool.not_false, if_pos rfl, becomeIdle_eq, hself] at hd'
    have hnow : (tearDown n d).tb.now = d.tb.now := by rw [hframe]
    rw [hnow] at hd'
    rw [Stream.stopped, stopNotices, hread, if_neg Bool.false_ne_true, if_neg Bool.false_ne_true]
    have hnotice : stoppedNotice n ((d.stream n).tornDown (stopWork d n) (ownedLines d n))
        ((d.stream n).tornDown (stopWork d n) (ownedLines d n)).stopCount
        ((d.stream n).tornDown (stopWork d n) (ownedLines d n)).stopLines d.tb.now =
      stoppedNotice n (d.stream n) (stopWork d n) (ownedLines d n) d.tb.now := rfl
    rw [hnotice] at hd'
    generalize hcs : [stoppedNotice n (d.stream n) (stopWork d n) (ownedLines d n) d.tb.now] = cs at hd'
    generalize tearDown n d = v at hframe hline hplayer honly hself hsame hd'
    have hpost := postAll_frame cs v
    have hposts : SamePosts (postAll cs v) (postAll cs d) := hsame.postAll cs
    generalize postAll cs v = y at hpost hposts hd'
    rw [hd']
    have hystream (m : StreamId) : y.stream m = v.stream m := by rw [hpost]; rfl
    refine ⟨?_, fun l => ?_, fun p => ?_, fun m => ?_, hposts⟩
    · have hlines : y.lines = v.lines := by rw [hpost]
      have hplayers : y.players = v.players := by rw [hpost]
      change { y with streams := (y.modStream n Stream.idled).streams } = { d with
        calendar := d.calendar.filter (fun e => e.stream != n),
        reports := d.reports ++ (d.calendar.filter (fun e => e.stream == n)).map reportOf,
        lines := y.lines, players := y.players, streams := (y.modStream n Stream.idled).streams, holding := y.holding,
        queues := y.queues }
      rw [hlines, hplayers]
      generalize (y.modStream n Stream.idled).streams = S
      generalize hH : y.holding = H at hpost
      generalize hQ : y.queues = Q at hpost
      rw [hpost]
      generalize hL : v.lines = L at hframe
      generalize hP : v.players = P at hframe
      rw [hframe]
    · exact (congrArg (·.get l) (show y.lines = v.lines by rw [hpost])).trans (hline l)
    · exact (congrArg (·.get p) (show y.players = v.players by rw [hpost])).trans (hplayer p)
    · rw [Device.modStream_stream, hystream, hystream, hself, honly m]
      split <;> rfl

end Sys2Proof.Machine
end

section
/-! SUPPORT. The claim about START, STOP and STREAM_STOPPED (7.6, 7.7). -/

namespace Sys2Proof.Machine

theorem exec_start (n : StreamId) (s : State) : exec (.start n) s = event (startStream n) s := rfl
theorem exec_stop (n : StreamId) (s : State) : exec (.stop n) s = withdrawalEvent (stopStream n) s := rfl
theorem exec_streamStopped (n : StreamId) (s : State) : exec (.streamStopped n) s = act (fun d =>
    let d := settle false beforeStopped d
    if stopOver d n then becomeIdle n d else d) s := rfl

/-- A START that finds no stream to start is ignored (R131). -/
theorem startStream_of_ignored {n : StreamId} {d : Device} (h : d.ctl.mode ≠ .on ∨ (d.stream n).state = .running ∨
    (d.stream n).state = .waiting ∨ (d.stream n).state = .stopping ∨
    ((d.stream n).state = .idle ∧ (d.stream n).configured = false)) : startStream n d = cmdIgnored d := by
  unfold startStream
  by_cases hmode : d.ctl.mode ≠ .on
  · exact if_pos hmode
  · rw [if_neg hmode]
    rcases h with h | h | h | h | ⟨h, hc⟩
    · exact absurd h hmode
    all_goals rw [h]
    rw [hc]

/-- A START of an IDLE configured stream (R131). -/
theorem startStream_of_idle {n : StreamId} {d : Device} (hmode : d.ctl.mode = .on) (hidle : (d.stream n).state = .idle)
    (hconfigured : (d.stream n).configured = true) : startStream n d = d.modStream n fun x =>
      ({ x with state := .running, reason := .noWait, head := 0, tail := 0, buffer := [], anchor := d.tb.now } :
        Stream).refetched d.threshold := by
  unfold startStream
  rw [if_neg (not_not.mpr hmode), hidle, hconfigured]
  dsimp only
  rw [fetchTest_eq_modStream, Device.modStream_modStream]
  rfl

/-- A START of a HALTED stream (R131). -/
theorem startStream_of_halted {n : StreamId} {d : Device} (hmode : d.ctl.mode = .on)
    (hhalted : (d.stream n).state = .halted) : startStream n d = d.modStream n fun x =>
      ({ x with state := .running, reason := .noWait, buffer := [] } : Stream).refetched d.threshold := by
  unfold startStream
  rw [if_neg (not_not.mpr hmode), hhalted]
  dsimp only
  rw [fetchTest_eq_modStream, Device.modStream_modStream]
  rfl

/-- With head and tail 0 there is nothing to fetch (R121). -/
theorem Stream.refetched_of_empty {threshold : Nat} {x : Stream} (hhead : x.head = 0) (htail : x.tail = 0) :
    x.refetched threshold = x := by
  refine if_neg fun ⟨_, _, _, _, hspan⟩ => ?_
  have hzero : ringSpan 0 0 x.size = 0 := by simp [ringSpan]
  rw [hhead, htail, hzero] at hspan
  exact Nat.not_lt_zero _ hspan

theorem stopStream_of_ignored {n : StreamId} {d : Device} (h : (d.stream n).state = .idle ∨
    (d.stream n).state = .stopping) : stopStream n d = cmdIgnored d := by
  unfold stopStream
  rcases h with h | h <;> rw [h]

theorem Player.stoppedBy_eq (n : StreamId) (pl : Player) : pl.stoppedBy n =
    if (pl.state = .priming ∨ pl.state = .playing) ∧ pl.stream = some n then endedPlayer pl else pl := by
  simp only [Player.stoppedBy, patternOf, hasPattern, Bool.and_eq_true, Bool.or_eq_true, beq_iff_eq]

/-- Settles O44. -/
theorem streamsStartAndStop : Obligations.StreamsStartAndStop := by
  intro s n y quieted
  refine ⟨fun ⟨hreset, hcalm⟩ hmode hidle hconfigured => ?_, ?_, fun ⟨hreset, hcalm⟩ h => ?_, ?_,
    fun ⟨hreset, hcalm⟩ h => ?_, ?_⟩
  · have hexec := (exec_start n s).trans (event_of_calm hreset hcalm)
    rw [startStream_of_idle hmode hidle hconfigured] at hexec
    refine ⟨_, hexec, rfl, rfl, fun m => ?_⟩
    rw [Device.modStream_stream, Stream.refetched_of_empty rfl rfl]
  · intro ⟨hreset, hcalm⟩ hmode hhalted z
    have hexec := (exec_start n s).trans (event_of_calm hreset hcalm)
    rw [startStream_of_halted hmode hhalted] at hexec
    exact ⟨_, hexec, rfl, rfl, fun m => Device.modStream_stream ..⟩
  · rw [Ignored, exec_start, event_of_calm hreset hcalm, startStream_of_ignored h]
    rfl
  · intro owned ⟨hreset, hcalm⟩ hactive howned captures work
    have hlines : ownedLines s.dev n = owned := maskOf_eq howned
    obtain ⟨hframe, hline, hplayer, honly, hposts⟩ := stopStream_does hactive
    rw [hlines] at honly
    have hwork : stopWork s.dev n = work := rfl
    rw [hwork] at honly
    refine ⟨_, (exec_stop n s).trans (withdrawalEvent_of_calm hreset hcalm), rfl, hframe, hline,
      fun p => (hplayer p).trans (Player.stoppedBy_eq ..), fun hread => ?_, fun k hread => ?_⟩
    · have hread' : inFlight y.request = false :=
        Bool.eq_false_of_not_eq_true fun h => (inFlight_eq_true_iff.mp h).elim hread
      rw [Stream.stopped, hread'] at honly
      rw [stopNotices, hread', if_neg Bool.false_ne_true, hlines, hwork] at hposts
      refine ⟨honly, ?_⟩
      exact postedIf_of_samePosts (b := true) hposts
    · have hread' : inFlight y.request = true := inFlight_eq_true_iff.mpr ⟨k, hread⟩
      rw [Stream.stopped, hread', if_pos rfl] at honly
      rw [stopNotices, hread', if_pos rfl] at hposts
      refine ⟨hposts.1, hposts.2.1, fun m => (honly m).trans ?_⟩
      rw [Stream.tornDown, show (s.dev.stream n).request = _ from hread]
      rfl
  · rw [Ignored, exec_stop, withdrawalEvent_of_calm hreset hcalm, stopStream_of_ignored h]
    rfl
  · intro ⟨hreset, hcalm⟩ hstate
    have hexec : exec (.streamStopped n) s =
        .next { s with dev := if stopOver s.dev n then becomeIdle n s.dev else s.dev } := by
      rw [exec_streamStopped, act_of_high hreset, settle_of_calm hcalm]
    have hover : stopOver s.dev n = !inFlight y.request := by rw [stopOver, hstate]; rfl
    rw [hover] at hexec
    refine ⟨fun hread => ?_, fun k hread => ?_⟩
    · have hread' : inFlight y.request = false :=
        Bool.eq_false_of_not_eq_true fun h => (inFlight_eq_true_iff.mp h).elim hread
      have hidle : becomeIdle n s.dev = post y.target (stoppedNotice n y y.stopCount y.stopLines s.dev.tb.now).2
          (s.dev.modStream n Stream.idled) :=
        post_modStream y.target _ s.dev n Stream.idled
      rw [hread', Bool.not_false, if_pos rfl, hidle] at hexec
      exact ⟨_, hexec, rfl, answered_modStream true _ _ n Stream.idled s.dev⟩
    · rw [hexec, hread]; rfl

end Sys2Proof.Machine
end

section
/-! SUPPORT. The streams that a DISABLE stops, one after another (7.8, 9.3). -/

namespace Sys2Proof.Machine

/-! ## One line and one player through several stops -/

/-- A line after the stops of several streams (R132). -/
theorem foldl_line_stoppedBy (ns : List StreamId) (x : Line) : ns.foldl (fun x n => x.stoppedBy n) x =
    { x with capture := if x.capture.any (fun c => decide (c.stream ∈ ns)) then none else x.capture,
             owner := if x.owner.any (fun n => decide (n ∈ ns)) then none else x.owner,
             out := if x.owner.any (fun n => decide (n ∈ ns)) && x.mode == .output then x.safe else x.out } := by
  induction ns generalizing x with
  | nil => cases x with | mk mode owner out safe fl fi ag sa capture => cases owner <;> cases capture <;> simp
  | cons n ns ih =>
    rw [List.foldl_cons, ih]
    obtain ⟨mode, owner, out, safe, filterLength, filtered, agree, sampled, capture⟩ := x
    have hcapture : (if (if capture.any (fun c => c.stream == n) then none else capture).any
          (fun c => decide (c.stream ∈ ns)) then none else if capture.any (fun c => c.stream == n) then none else capture) =
        if capture.any (fun c => decide (c.stream ∈ n :: ns)) then none else capture := by
      cases capture with
      | none => rfl
      | some c => by_cases h : c.stream = n <;> simp [h]
    have howner : (if (if owner = some n then none else owner).any (fun k => decide (k ∈ ns)) then none
          else if owner = some n then none else owner) =
        if owner.any (fun k => decide (k ∈ n :: ns)) then none else owner := by
      cases owner with
      | none => rfl
      | some k => by_cases h : k = n <;> simp [h]
    have hout : (if (if owner = some n then none else owner).any (fun k => decide (k ∈ ns)) && mode == .output then safe
          else if owner = some n ∧ mode = .output then safe else out) =
        if owner.any (fun k => decide (k ∈ n :: ns)) && mode == .output then safe else out := by
      cases owner with
      | none => simp
      | some k => by_cases h : k = n <;> by_cases hm : mode = .output <;> simp [h, hm]
    simp only [Line.stoppedBy]
    rw [hcapture, howner, hout]

/-- A player after the stops of several streams (R112). -/
theorem foldl_player_stoppedBy (ns : List StreamId) (pl : Player) : ns.foldl (fun x n => x.stoppedBy n) pl =
    if hasPattern pl && pl.stream.any (fun n => decide (n ∈ ns)) then endedPlayer pl else pl := by
  have hended (pl : Player) : hasPattern (endedPlayer pl) = false := by
    unfold endedPlayer; cases pl.request <;> rfl
  induction ns generalizing pl with
  | nil => cases h : pl.stream <;> simp
  | cons n ns ih =>
    rw [List.foldl_cons, ih, Player.stoppedBy]
    by_cases hp : patternOf n pl = true
    · obtain ⟨hpattern, hstream⟩ := Bool.and_eq_true_iff.mp hp
      rw [if_pos hp, hended, hpattern, beq_iff_eq.mp hstream]
      simp
    · rw [if_neg hp]
      congr 2
      cases hpattern : hasPattern pl with
      | false => rfl
      | true =>
        cases hstream : pl.stream with
        | none => rfl
        | some k =>
          have hne : k ≠ n := fun h => hp (by rw [patternOf, hpattern, hstream, h]; simp)
          simp [hne]

/-! ## Several streams stopped -/

/-- The stream is RUNNING, WAITING or HALTED (R132). -/
def activeIn (d : Device) (n : StreamId) : Bool :=
  (d.stream n).state == .running || (d.stream n).state == .waiting || (d.stream n).state == .halted

theorem activeIn_iff {d : Device} {n : StreamId} : activeIn d n = true ↔
    (d.stream n).state = .running ∨ (d.stream n).state = .waiting ∨ (d.stream n).state = .halted := by
  simp [activeIn, or_assoc]

/-- What a STOP of one stream leaves of the work of another (R132). -/
theorem stopWork_of_other {n m : StreamId} {d d' : Device} (hne : m ≠ n)
    (hcalendar : d'.calendar = d.calendar.filter (fun e => e.stream != n))
    (hline : ∀ l, d'.line l = (d.line l).stoppedBy n) (hstream : d'.stream m = d.stream m) :
    stopWork d' m = stopWork d m ∧ ownedLines d' m = ownedLines d m ∧
      d'.calendar.filter (fun e => e.stream == m) = d.calendar.filter (fun e => e.stream == m) := by
  have hentries (p : Entry → Bool) : d'.calendar.filter (fun e => e.stream == m && p e) =
      d.calendar.filter (fun e => e.stream == m && p e) := by
    rw [hcalendar, List.filter_filter]
    refine List.filter_congr fun e _ => ?_
    by_cases h : e.stream = m
    · simp [h, hne]
    · simp [h]
  have hcaptured : capturedLines d' m = capturedLines d m := by
    refine List.filter_congr fun l _ => ?_
    rw [hline l, Line.stoppedBy]
    cases hc : (d.line l).capture with
    | none => rfl
    | some c =>
      by_cases h : c.stream = n
      · have hm : n ≠ m := fun h => hne h.symm
        simp [h, hm]
      · simp [h]
  refine ⟨?_, ?_, ?_⟩
  · rw [stopWork, hentries, hcaptured, hstream]; rfl
  · unfold ownedLines
    congr 1
    funext l
    rw [hline l, Line.stoppedBy]
    by_cases h : (d.line l).owner = some n
    · have hm : n ≠ m := fun h => hne h.symm
      simp [h, hm]
    · simp [h]
  · have h := hentries fun _ => true
    simpa using h

/-- Streams stopped one after another (R154). -/
def stopStreams (ns : List StreamId) (d : Device) : Device := ns.foldl (fun d n => stopStream n d) d

/-- What the stops of several streams leave, one after another (R132, R133, R154). -/
theorem stopStreams_does (ns : List StreamId) (hns : ns.Nodup) (d : Device) (hactive : ∀ n ∈ ns, activeIn d n = true) :
    let d' := stopStreams ns d
    d' = { d with
      calendar := d.calendar.filter (fun e => !decide (e.stream ∈ ns)),
      reports := d.reports ++ ns.flatMap (fun n => (d.calendar.filter (fun e => e.stream == n)).map reportOf),
      lines := d'.lines, players := d'.players, streams := d'.streams, holding := d'.holding, queues := d'.queues } ∧
    (∀ l, d'.line l = ns.foldl (fun x n => x.stoppedBy n) (d.line l)) ∧
    (∀ p, d'.player p = ns.foldl (fun x n => x.stoppedBy n) (d.player p)) ∧
    (∀ m, d'.stream m = if m ∈ ns then (d.stream m).stopped (stopWork d m) (ownedLines d m) else d.stream m) ∧
    SamePosts d' (postAll (ns.flatMap fun n => stopNotices n d) d) := by
  induction ns generalizing d with
  | nil => exact ⟨by simp [stopStreams], fun _ => rfl, fun _ => rfl, by simp [stopStreams], rfl, rfl, rfl⟩
  | cons n ns ih =>
    obtain ⟨hn, hns⟩ := List.nodup_cons.mp hns
    obtain ⟨hframe, hline, hplayer, honly, hposts⟩ := stopStream_does (activeIn_iff.mp (hactive n (List.mem_cons_self ..)))
    have hsplit : stopStreams (n :: ns) d = stopStreams ns (stopStream n d) := rfl
    generalize stopStream n d = v at hframe hline hplayer honly hposts hsplit
    have hother : ∀ m ∈ ns, v.stream m = d.stream m := fun m hm => by
      have hne : m ≠ n := ne_of_mem_of_not_mem hm hn
      rw [honly m, if_neg hne]
    have hcalendar : v.calendar = d.calendar.filter (fun e => e.stream != n) := by rw [hframe]
    have hwork := fun m (hm : m ∈ ns) =>
      stopWork_of_other (ne_of_mem_of_not_mem hm hn) hcalendar hline (hother m hm)
    have hnow : v.tb.now = d.tb.now := by rw [hframe]
    obtain ⟨hframe', hline', hplayer', hstream', hposts'⟩ := ih hns v fun m hm => by
      rw [activeIn, hother m hm]; exact hactive m (List.mem_cons_of_mem _ hm)
    intro d'
    have hd' : d' = stopStreams ns v := hsplit
    rw [← hd'] at hframe' hline' hplayer' hstream' hposts'
    refine ⟨?_, fun l => ?_, fun p => ?_, fun m => ?_, ?_⟩
    · have hfilter : v.calendar.filter (fun e => !decide (e.stream ∈ ns)) =
          d.calendar.filter (fun e => !decide (e.stream ∈ n :: ns)) := by
        rw [hcalendar, List.filter_filter]
        refine List.filter_congr fun e _ => ?_
        by_cases h : e.stream = n <;> simp [h]
      have hreports : v.reports ++ ns.flatMap (fun m => (v.calendar.filter (fun e => e.stream == m)).map reportOf) =
          d.reports ++ (n :: ns).flatMap (fun m => (d.calendar.filter (fun e => e.stream == m)).map reportOf) := by
        rw [List.flatMap_congr fun m hm => by rw [(hwork m hm).2.2], List.flatMap_cons, ← List.append_assoc]
        congr 1
        rw [hframe]
      rw [hfilter, hreports] at hframe'
      refine hframe'.trans ?_
      generalize d' = y
      rw [hframe]
    · rw [hline' l, hline l]; rfl
    · rw [hplayer' p, hplayer p]; rfl
    · rw [hstream' m]
      by_cases hm : m ∈ ns
      · have hne : m ≠ n := ne_of_mem_of_not_mem hm hn
        rw [if_pos hm, if_pos (List.mem_cons_of_mem _ hm), hother m hm, (hwork m hm).1, (hwork m hm).2.1]
      · rw [if_neg hm, honly m]
        by_cases h : m = n
        · subst h; rw [if_pos rfl, if_pos (List.mem_cons_self ..)]
        · rw [if_neg h, if_neg (by simp [h, hm])]
    · have hnotices : ns.flatMap (fun m => stopNotices m v) = ns.flatMap (fun m => stopNotices m d) :=
        List.flatMap_congr fun m hm => by
          rw [stopNotices, stopNotices, hother m hm, (hwork m hm).1, (hwork m hm).2.1, hnow]
      rw [hnotices] at hposts'
      rw [List.flatMap_cons, postAll_append]
      exact hposts'.trans (hposts.postAll _)

end Sys2Proof.Machine
end

section
/-! SUPPORT. The attention bits of EVENT (8.7, 12.11) and the passage to OFF (9.3). -/

namespace Sys2Proof.Machine

/-! ## Attention bits -/

/-- A word meets the attention bit of a queue when it has that bit (12.11). -/
theorem and_attnBit_ne_zero (w : W32) (q : CqId) : (w &&& attnBit q != 0) = w.getLsbD q.val := by
  have hbit : attnBit q = BitVec.twoPow 32 q.val := by revert q; decide
  have hne : attnBit q ≠ 0 := by revert q; decide
  rw [hbit] at hne ⊢
  rw [BitVec.and_twoPow]
  cases w.getLsbD q.val
  · rfl
  · exact bne_iff_ne.mpr hne

theorem attnSet_eq (d : Device) (q : CqId) : attnSet d q = d.host.event.getLsbD q.val := and_attnBit_ne_zero ..

theorem getLsbD_attnBit (q k : CqId) : (attnBit q).getLsbD k.val = decide (q = k) := by revert q k; decide

theorem attnBit_low (q : CqId) : attnBit q &&& 0xFFFFFFF0#32 = 0#32 := by revert q; decide

/-! ## Attention for what remains unsignalled (R146, R149) -/

/-- EVENT and a queue after attention for what remains unsignalled. -/
theorem signalRemaining_does (q : CqId) (d : Device) :
    let d' := signalRemaining q d
    d' = { d with queues := d'.queues, host := { d.host with event := d'.host.event } } ∧
    (∀ k, attnSet d' k = (attnSet d k || (decide (q = k) && decide (0 < (d.queue q).unsignalled)))) ∧
    d'.host.event &&& 0xFFFFFFF0#32 = d.host.event &&& 0xFFFFFFF0#32 ∧
    (∀ k, k ≠ q → d'.queue k = d.queue k) := by
  intro d'
  by_cases h : 0 < (d.queue q).unsignalled
  · have hd' : d' = setEvent (attnBit q) (d.modQueue q fun c => { c with unsignalled := 0, timer := none }) := if_pos h
    rw [hd']
    refine ⟨rfl, fun k => ?_, ?_, fun k hk => ?_⟩
    · rw [attnSet_eq, attnSet_eq, decide_eq_true h, Bool.and_true, ← getLsbD_attnBit]
      exact BitVec.getLsbD_or ..
    · have hand : (d.host.event ||| attnBit q) &&& 0xFFFFFFF0#32 = d.host.event &&& 0xFFFFFFF0#32 := by
        rw [BitVec.and_comm, BitVec.and_or_distrib_left, BitVec.and_comm _ (attnBit q), attnBit_low,
          BitVec.or_zero, BitVec.and_comm]
      exact hand
    · exact Device.modQueue_queue_other d q k (fun c => { c with unsignalled := 0, timer := none }) hk
  · have hd' : d' = d := if_neg h
    rw [hd']
    exact ⟨rfl, fun k => by rw [decide_eq_false h, Bool.and_false, Bool.or_false], rfl, fun _ _ => rfl⟩

/-- Attention for what several queues have unsignalled, one after another. -/
theorem foldl_signalRemaining_does (qs : List CqId) (hqs : qs.Nodup) (d : Device) :
    let d' := qs.foldl (fun d q => signalRemaining q d) d
    d' = { d with queues := d'.queues, host := { d.host with event := d'.host.event } } ∧
    (∀ k, attnSet d' k = (attnSet d k || (decide (k ∈ qs) && decide (0 < (d.queue k).unsignalled)))) ∧
    d'.host.event &&& 0xFFFFFFF0#32 = d.host.event &&& 0xFFFFFFF0#32 := by
  induction qs generalizing d with
  | nil => exact ⟨rfl, by simp, rfl⟩
  | cons q qs ih =>
    obtain ⟨hq, hqs⟩ := List.nodup_cons.mp hqs
    obtain ⟨hframe, hattn, hrest, hother⟩ := signalRemaining_does q d
    obtain ⟨hframe', hattn', hrest'⟩ := ih hqs (signalRemaining q d)
    rw [List.foldl_cons]
    refine ⟨?_, fun k => ?_, hrest'.trans hrest⟩
    · refine hframe'.trans ?_
      generalize qs.foldl (fun d q => signalRemaining q d) (signalRemaining q d) = y
      rw [hframe]
    · rw [hattn', hattn]
      by_cases hk : k = q
      · subst hk; simp [hq]
      · have hqk : q ≠ k := fun h => hk h.symm
        rw [hother k hk]
        simp [hk, hqk]

theorem mem_allQueues (q : CqId) : q ∈ allQueues := by revert q; decide

theorem nodup_allQueues : allQueues.Nodup := by decide

/-- The steps of the passage to OFF, by name (R155). -/
theorem passToOff_eq (d : Device) :
    let y := allQueues.foldl (fun d q => signalRemaining q d) d
    passToOff d = { Device.reset with
      tb := { Timebase.reset with timeHi := y.tb.timeHi }, host := y.host, reads := y.reads, writes := y.writes,
      nextRead := y.nextRead, nextWrite := y.nextWrite } := by
  have htb : Device.reset.tb = Timebase.reset := rfl
  unfold passToOff
  generalize allQueues.foldl (fun d q => signalRemaining q d) d = y
  rw [← htb]
  rfl

/-- What the passage to OFF leaves (R14, R149, R155). -/
theorem passedToOff_passToOff (d : Device) : PassedToOff d (passToOff d) := by
  obtain ⟨hframe, hattn, hrest⟩ := foldl_signalRemaining_does allQueues nodup_allQueues d
  have heq := passToOff_eq d
  dsimp only at heq
  generalize allQueues.foldl (fun d q => signalRemaining q d) d = y at hframe hattn hrest heq
  have hevent : (passToOff d).host.event = y.host.event := by rw [heq]
  unfold PassedToOff
  rw [hevent]
  refine ⟨?_, fun q => ?_, hrest⟩
  · rw [heq, hframe]
  · rw [attnSet_eq, hevent, ← attnSet_eq, hattn]
    simp [mem_allQueues]

/-! ## The streams of a DISABLE -/

theorem nodup_allStreams : allStreams.Nodup := by decide

/-- The streams visited by a DISABLE, each stopped when it is active: those active at the start are stopped (R154). -/
theorem foldl_stopActive (ns : List StreamId) (hns : ns.Nodup) (d : Device) :
    ns.foldl (fun d n => match (d.stream n).state with
      | .running | .waiting | .halted => stopStream n d
      | .idle | .stopping => d) d = stopStreams (ns.filter (activeIn d)) d := by
  induction ns generalizing d with
  | nil => simp only [List.foldl_nil, List.filter_nil, stopStreams]
  | cons n ns ih =>
    obtain ⟨hn, hns⟩ := List.nodup_cons.mp hns
    have hvisit : (match (d.stream n).state with
      | .running | .waiting | .halted => stopStream n d
      | .idle | .stopping => d) = if activeIn d n then stopStream n d else d := by
      unfold activeIn
      generalize stopStream n d = y
      cases (d.stream n).state <;> rfl
    rw [List.foldl_cons, hvisit]
    cases hactive : activeIn d n with
    | false =>
      rw [if_neg Bool.false_ne_true, ih hns, List.filter_cons_of_neg (by simp [hactive])]
    | true =>
      rw [if_pos rfl, ih hns, List.filter_cons_of_pos hactive]
      have hsame : ns.filter (activeIn (stopStream n d)) = ns.filter (activeIn d) := by
        obtain ⟨-, -, -, honly, -⟩ := stopStream_does (activeIn_iff.mp hactive)
        refine List.filter_congr fun m hm => ?_
        have hne : m ≠ n := ne_of_mem_of_not_mem hm hn
        rw [activeIn, honly m, if_neg hne]
        rfl
      rw [hsame]
      rfl

/-- The streams that a DISABLE stops. -/
def activeStreams (d : Device) : List StreamId := allStreams.filter (activeIn d)

theorem mem_activeStreams {d : Device} {n : StreamId} : n ∈ activeStreams d ↔ activeIn d n = true := by
  simp [activeStreams, mem_allStreams]

/-- The entry into STOPPING, its steps by name (R154). -/
theorem beginStopping_eq (d : Device) : beginStopping d =
    (stopStreams (activeStreams d) (stopTime .held d)).modCtl fun c =>
      { c with mode := .stopping, buffer := [], request := withdraw c.request, boot := withdraw c.boot } :=
  congrArg (fun v : Device => v.modCtl fun c =>
    { c with mode := .stopping, buffer := [], request := withdraw c.request, boot := withdraw c.boot })
    (foldl_stopActive allStreams nodup_allStreams (stopTime .held d))

end Sys2Proof.Machine
end

section
/-! SUPPORT. The claim about ENABLE, DISABLE and TEARDOWN_COMPLETE (9.1, 9.3). -/

namespace Sys2Proof.Machine

theorem exec_enable (s : State) : exec .enable s = event enableDevice s := rfl
theorem exec_disable (s : State) : exec .disable s = act (fun d => disableDevice (settle true allButGrant d)) s := rfl
theorem exec_teardownComplete (s : State) : exec .teardownComplete s = act (fun d =>
    let d := settle false beforeTeardown d
    if teardownOver d then passToOff d else d) s := rfl

/-! ## The entry into STOPPING -/

/-- The timebase after the entry into STOPPING (R154). -/
def Timebase.held (t : Timebase) : Timebase := { t with mode := .held, divider := 0 }

/-- The control ring processor after the entry into STOPPING (R154). -/
def Control.stopping (c : Control) : Control :=
  { c with mode := .stopping, buffer := [], request := withdraw c.request, boot := withdraw c.boot }

/-- What the entry into STOPPING leaves (R154). -/
theorem beginStopping_does (d : Device) :
    let v := beginStopping d
    v = { d with
      tb := d.tb.held,
      calendar := d.calendar.filter (fun e => !activeIn d e.stream),
      reports := d.reports ++ (activeStreams d).flatMap (fun n => (d.calendar.filter (fun e => e.stream == n)).map reportOf),
      lines := v.lines, players := v.players, streams := v.streams, holding := v.holding, queues := v.queues,
      ctl := d.ctl.stopping } ∧
    (∀ l, v.line l = { d.line l with
      capture := if (d.line l).capture.any (fun c => activeIn d c.stream) then none else (d.line l).capture,
      owner := if (d.line l).owner.any (activeIn d) then none else (d.line l).owner,
      out := if (d.line l).owner.any (activeIn d) && (d.line l).mode == .output then (d.line l).safe
        else (d.line l).out }) ∧
    (∀ p, v.player p = if hasPattern (d.player p) && (d.player p).stream.any (activeIn d)
      then endedPlayer (d.player p) else d.player p) ∧
    (∀ n, v.stream n = if activeIn d n then (d.stream n).stopped (stopWork d n) (ownedLines d n) else d.stream n) ∧
    SamePosts v (postAll ((activeStreams d).flatMap fun n => stopNotices n d) d) := by
  intro v
  let h := stopTime .held d
  have hmem : (fun n => decide (n ∈ activeStreams d)) = activeIn d := by
    funext n
    rw [Bool.eq_iff_iff, decide_eq_true_eq, mem_activeStreams]
  obtain ⟨hframe, hline, hplayer, hstream, hposts⟩ := stopStreams_does (activeStreams d) (nodup_allStreams.filter _) h
    fun n hn => mem_activeStreams.mp hn
  have hv : v = { stopStreams (activeStreams d) h with ctl := (stopStreams (activeStreams d) h).ctl.stopping } :=
    beginStopping_eq d
  generalize stopStreams (activeStreams d) h = y at hframe hline hplayer hstream hposts hv
  refine ⟨?_, fun l => ?_, fun p => ?_, fun n => ?_, ?_⟩
  · rw [hv]
    change { y with ctl := y.ctl.stopping } = _
    have hctl : y.ctl = d.ctl := by rw [hframe]; rfl
    rw [hctl]
    have hfilter : (fun e : Entry => !decide (e.stream ∈ activeStreams d)) = fun e => !activeIn d e.stream := by
      funext e; rw [← hmem]
    rw [hfilter] at hframe
    generalize y.lines = L, y.players = P, y.streams = S, y.holding = H, y.queues = Q at hframe
    rw [hframe]
    rfl
  · have hl : v.line l = y.line l := by rw [hv]; rfl
    rw [hl, hline l, foldl_line_stoppedBy]
    simp only [← hmem]
    rfl
  · have hp : v.player p = y.player p := by rw [hv]; rfl
    rw [hp, hplayer p, foldl_player_stoppedBy]
    simp only [← hmem]
    rfl
  · have hn : v.stream n = y.stream n := by rw [hv]; rfl
    rw [hn, hstream n]
    simp only [mem_activeStreams]
    rfl
  · have hsame : SamePosts v y := by rw [hv]; exact ⟨rfl, rfl, rfl⟩
    have hheld : SamePosts h d := ⟨rfl, rfl, rfl⟩
    exact hsame.trans (hposts.trans (hheld.postAll _))

/-- With every stream IDLE the entry into STOPPING stops no stream (R154). -/
theorem beginStopping_of_idle {d : Device} (hidle : ∀ n, (d.stream n).state = .idle) :
    beginStopping d = { d with tb := d.tb.held, ctl := d.ctl.stopping } := by
  have hnone : activeStreams d = [] := by
    refine List.filter_eq_nil_iff.mpr fun n _ => ?_
    rw [activeIn, hidle n]
    decide
  rw [beginStopping_eq, hnone]
  rfl

/-! ## The end of the teardown -/

/-- Reads, QUERY and completion unit have settled (R149, R155). -/
def Settling (d : Device) : Prop :=
  d.reads = [] ∧ d.ctl.query = none ∧ d.outstanding = none ∧ ∀ h ∈ d.holding, queueOpen d h.queue = false

theorem teardownOver_iff (d : Device) : teardownOver d = true ↔
    d.ctl.mode = .stopping ∧ (∀ n, (d.stream n).state = .idle) ∧ Settling d := by
  simp only [teardownOver, completionSettled, hasEligible, Settling, Bool.and_eq_true, beq_iff_eq, List.all_eq_true,
    mem_allStreams, true_implies, List.isEmpty_iff, Option.isNone_iff_eq_none, Bool.not_eq_true', List.any_eq_false,
    Bool.not_eq_true, and_assoc]

/-- Posts leave what is unsignalled (R144). -/
theorem postAll_unsignalled (cs : List (CqId × Completion)) (d : Device) (q : CqId) :
    ((postAll cs d).queue q).unsignalled = (d.queue q).unsignalled := by
  induction cs generalizing d with
  | nil => rfl
  | cons c cs ih =>
    refine (ih (post c.1 c.2 d)).trans ?_
    have h := posted_post c.1 c.2 d
    unfold Posted at h
    split at h <;>
    · rw [h.2 q]; split
      · next hq => rw [hq]
      · rfl

/-- The passage to OFF of a part that differs from another in what the passage resets. -/
theorem PassedToOff.of_same {v d x : Device} (h : PassedToOff v x) (htime : v.tb.timeHi = d.tb.timeHi)
    (hhost : v.host = d.host) (hreads : v.reads = d.reads) (hwrites : v.writes = d.writes)
    (hnextRead : v.nextRead = d.nextRead) (hnextWrite : v.nextWrite = d.nextWrite)
    (hunsignalled : ∀ q, (v.queue q).unsignalled = (d.queue q).unsignalled) : PassedToOff d x := by
  unfold PassedToOff at h ⊢
  have hattn (q : CqId) : attnSet v q = attnSet d q := by rw [attnSet, attnSet, hhost]
  simp only [htime, hhost, hreads, hwrites, hnextRead, hnextWrite, hattn, hunsignalled] at h
  exact h

theorem passToOff_ctl (d : Device) : (passToOff d).ctl = Control.reset := by
  rw [passToOff_eq]; rfl

theorem passToOff_mode (d : Device) : (passToOff d).tb.mode = .held := by
  rw [passToOff_eq]; rfl

theorem passToOff_stream (d : Device) (n : StreamId) : (passToOff d).stream n = Stream.reset := by
  have hstreams : (passToOff d).streams = Device.reset.streams := by rw [passToOff_eq]
  exact (congrArg (·.get n) hstreams).trans (reset_stream n)

/-- The passage to OFF within a DISABLE (R155). -/
theorem passedToOff_beginStopping (d : Device) : PassedToOff d (passToOff (beginStopping d)) := by
  obtain ⟨hframe, -, -, -, hposts⟩ := beginStopping_does d
  have hunsignalled (q : CqId) : ((beginStopping d).queue q).unsignalled = (d.queue q).unsignalled := by
    rw [← postAll_unsignalled ((activeStreams d).flatMap fun n => stopNotices n d) d q]
    exact congrArg (fun qs : Vector Queue 4 => (qs.get q).unsignalled) hposts.2.1
  have hoff := passedToOff_passToOff (beginStopping d)
  refine hoff.of_same ?_ ?_ ?_ ?_ ?_ ?_ hunsignalled <;> rw [hframe]
  rfl

/-- A DISABLE of a part in ON or LOADING (R154, R155). -/
theorem disableDevice_of_active {d : Device} (hquiet : quiet d = true) (hmode : d.ctl.mode = .on ∨ d.ctl.mode = .loading) :
    disableDevice d = if teardownOver (beginStopping d) then passToOff (beginStopping d) else beginStopping d := by
  unfold disableDevice
  rw [hquiet, Bool.not_true, if_neg Bool.false_ne_true]
  rcases hmode with h | h <;> rw [h]

/-- What a DISABLE with nothing to stop leaves is over when the rest has settled (R155). -/
theorem teardownOver_beginStopping_of_idle {d : Device} (hidle : ∀ n, (d.stream n).state = .idle) :
    teardownOver (beginStopping d) = true ↔ Settling d := by
  rw [teardownOver_iff, beginStopping_of_idle hidle]
  exact ⟨fun h => h.2.2, fun h => ⟨rfl, hidle, h⟩⟩

/-- The STREAM_STOPPED that the stops of several streams post at once (R133). -/
theorem flatMap_stopNotices (d : Device) : (activeStreams d).flatMap (fun n => stopNotices n d) =
    (allStreams.filter fun n => activeIn d n && !inFlight (d.stream n).request).map fun n =>
      stoppedNotice n (d.stream n) (stopWork d n) (ownedLines d n) d.tb.now := by
  rw [activeStreams]
  induction allStreams with
  | nil => rfl
  | cons n ns ih =>
    cases hactive : activeIn d n with
    | false => simp [hactive, ih]
    | true =>
      cases hread : inFlight (d.stream n).request with
      | true =>
        have hnotices : stopNotices n d = [] := if_pos hread
        simp [hactive, hread, ih, hnotices]
      | false =>
        have hnotices : stopNotices n d = [stoppedNotice n (d.stream n) (stopWork d n) (ownedLines d n) d.tb.now] :=
          if_neg (ne_true_of_eq_false hread)
        simp [hactive, hread, ih, hnotices]

/-- Settles O59. -/
theorem deviceStatesPass : Obligations.DeviceStatesPass := by
  unfold Obligations.DeviceStatesPass
  intro s d settled off
  refine ⟨fun ⟨hreset, hcalm⟩ => ?_, fun ⟨hreset, hcalm⟩ => ?_, fun ⟨hreset, hcalm⟩ hmode => ?_⟩
  · have hexec : exec .enable s = .next { s with dev := enableDevice d } :=
      (exec_enable s).trans (event_of_calm hreset hcalm)
    refine ⟨fun hquiet => ?_, fun hquiet hmode => ?_, fun hquiet hmode => ?_, fun hquiet hmode => ?_⟩
    · rw [Ignored, hexec, enableDevice, hquiet]; rfl
    · rw [Ignored, hexec, enableDevice, hquiet, hmode]; rfl
    · rw [hexec, enableDevice, hquiet, hmode]; rfl
    · rw [hexec, enableDevice, hquiet]
      rcases hmode with h | h | h <;> rw [h] <;> rfl
  · have hexec : exec .disable s = .next { s with dev := disableDevice d } := by
      rw [exec_disable, act_of_high hreset, settle_of_calm hcalm]
    refine ⟨fun hquiet => ?_, fun hquiet hmode => ?_, fun hquiet hmode => ?_, fun hquiet hmode => ?_⟩
    · rw [Ignored, hexec, disableDevice, hquiet]; rfl
    · rw [hexec, disableDevice, hquiet]
      rcases hmode with h | h <;> rw [h] <;> rfl
    · have hdev : disableDevice d = passToOff d := by
        rw [disableDevice, hquiet, hmode]; rfl
      exact ⟨_, hexec, rfl, hdev ▸ passedToOff_passToOff d⟩
    · rw [disableDevice_of_active hquiet hmode] at hexec
      refine ⟨fun hidle hsettled => ?_, fun hidle hsettled => ?_, ?_⟩
      · rw [if_pos ((teardownOver_beginStopping_of_idle hidle).mpr hsettled)] at hexec
        exact ⟨_, hexec, rfl, passedToOff_beginStopping d⟩
      · rw [if_neg (mt (teardownOver_beginStopping_of_idle hidle).mp hsettled), beginStopping_of_idle hidle] at hexec
        exact hexec
      · intro active reading captures work owned
        obtain ⟨hframe, hline, hplayer, hstream, hposts⟩ := beginStopping_does d
        have hstopped (n : StreamId) : ((beginStopping d).stream n).state =
            if active n then if reading n then .stopping else .idle else (d.stream n).state := by
          rw [hstream n, Stream.stopped]
          change (if active n then if reading n then _ else _ else _ : Stream).state = _
          cases active n <;> cases reading n <;> rfl
        have hmodeOf : (beginStopping d).ctl.mode = .stopping := by rw [hframe]; rfl
        cases hover : teardownOver (beginStopping d) with
        | true =>
          rw [hover, if_pos rfl] at hexec
          obtain ⟨-, hidle, hreads, hquery, houtstanding, -⟩ := (teardownOver_iff _).mp hover
          have hoff := passToOff_ctl (beginStopping d)
          have hnever : (passToOff (beginStopping d)).ctl.mode ≠ .stopping := by rw [hoff]; decide
          refine ⟨_, hexec, rfl, passToOff_mode _, .inr (by rw [hoff]; rfl), fun n => .inl (by rw [passToOff_stream]; rfl),
            fun h => ?_, fun _ => passedToOff_beginStopping d, fun h => absurd h hnever⟩
          rw [hframe] at hreads hquery houtstanding
          rcases h with h | h | h | ⟨n, hactive, hreading⟩
          · exact absurd hreads h
          · exact absurd hquery h
          · exact absurd houtstanding h
          · have hstate := (hstopped n).symm.trans (hidle n)
            rw [hactive, hreading] at hstate
            cases hstate
        | false =>
          rw [hover, if_neg Bool.false_ne_true] at hexec
          have hneverOff : (beginStopping d).ctl.mode ≠ .off := by rw [hmodeOf]; decide
          refine ⟨_, hexec, rfl, by rw [hframe]; rfl, .inl hmodeOf, fun n => ?_, fun _ => hmodeOf,
            fun h => absurd h hneverOff, fun _ => ⟨hframe, hline, fun p => ?_, fun n => ?_, ?_⟩⟩
          · rw [hstopped n]
            have hrest : active n = false → (d.stream n).state = .idle ∨ (d.stream n).state = .stopping := by
              change activeIn d n = false → _
              unfold activeIn
              cases (d.stream n).state <;> decide
            cases hactive : active n with
            | false => exact hrest hactive
            | true => cases reading n <;> simp
          · rw [hplayer p]
            simp only [hasPattern, Bool.and_eq_true, Bool.or_eq_true, beq_iff_eq]
            rfl
          · rw [hstream n, Stream.stopped]
            change (if active n then if reading n then _ else _ else _ : Stream) = _
            cases active n <;> cases reading n <;> rfl
          · rw [flatMap_stopNotices] at hposts
            exact postedAll_of_samePosts hposts
  · have hexec : exec .teardownComplete s = .next { s with dev := if teardownOver d then passToOff d else d } := by
      rw [exec_teardownComplete, act_of_high hreset, settle_of_calm hcalm]
    refine ⟨fun hidle hsettled => ?_, fun hnot => ?_⟩
    · rw [if_pos ((teardownOver_iff d).mpr ⟨hmode, hidle, hsettled⟩)] at hexec
      exact ⟨_, hexec, rfl, passedToOff_passToOff d⟩
    · rw [if_neg fun h => hnot ((teardownOver_iff d).mp h).2] at hexec
      exact hexec

end Sys2Proof.Machine
end

section
/-! SUPPORT. The resets (9.4). -/

namespace Sys2Proof.Machine

theorem exec_softReset (s : State) : exec .softReset s = event softReset s := rfl

/-- While RESET_N is low every command but the two of RESET_N and the read of the time register changes nothing: each
is an action on the part (R157). -/
theorem exec_of_low {c : Instr} {s : State} (hlow : s.dev.host.resetN = false) (hpin : c ≠ .pinReset)
    (hrise : c ≠ .resetNRise) (hread : c ≠ .timeLoRead) : exec c s = .next s := by
  have hact : ∃ d, exec c s = .next { s with dev := if s.dev.host.resetN then d else s.dev } := by
    cases c
    case pinReset => exact absurd rfl hpin
    case resetNRise => exact absurd rfl hrise
    case timeLoRead => exact absurd rfl hread
    all_goals exact ⟨_, rfl⟩
  obtain ⟨d, hd⟩ := hact
  rw [hd, hlow, if_neg Bool.false_ne_true]

theorem pin_of_low {d : Device} (h : d.host.resetN = false) (l : LineId) : pin d l = none := by
  rw [pin, h]; rfl

theorem readWindow_of_low {d : Device} (h : d.host.resetN = false) (offset size : Nat) : readWindow d offset size = 0 := by
  have hregister : readRegister d offset = 0 := by unfold readRegister; rw [h]; rfl
  rw [readWindow, hregister, ite_self]

/-- Settles O60. -/
theorem resetsPutEveryBlockBack : Obligations.ResetsPutEveryBlockBack := by
  intro s d
  refine ⟨fun ⟨hreset, hcalm⟩ => ?_, rfl, rfl, fun hlow => ⟨fun c => exec_of_low hlow, pin_of_low hlow,
    readWindow_of_low hlow⟩⟩
  rw [exec_softReset, event_of_calm hreset hcalm]
  rfl

end Sys2Proof.Machine
end

section
/-! SUPPORT. The writes of QUEUE_INDEX: tails, heads and selectors that name no ring (7.4, 8.3, 9.5, 10.1). -/

namespace Sys2Proof.Machine

theorem exec_tailWrite (n : StreamId) (i : BitVec 12) (s : State) :
    exec (.tailWrite n i) s = event (writeTail n i.toNat) s := rfl
theorem exec_headWrite (q : CqId) (i : BitVec 12) (s : State) :
    exec (.headWrite q i) s = event (writeHead q i.toNat) s := rfl
theorem exec_controlRingTailWrite (i : BitVec 12) (s : State) :
    exec (.controlRingTailWrite i) s = event (writeControlTail i.toNat) s := rfl
theorem exec_invalidSelector (word : W32) (s : State) : exec (.invalidSelector word) s =
    event (fun d => if queueIndexValid word then d else cmdIgnored d) s := rfl

/-- An event that is ignored as the part stands (R167). -/
theorem ignored_of_event {c : Instr} {s : State} {f : Device → Device} (hsettled : Settled s)
    (hexec : exec c s = event f s) (hf : f s.dev = cmdIgnored s.dev) : Ignored c s := by
  rw [Ignored, hexec, event_of_calm hsettled.1 hsettled.2, hf]
  rfl

/-! ## The tail of a stream's ring (R120, R128) -/

/-- A halt with one completion (R127). -/
theorem haltedWith_post (n : StreamId) (c : Completion) (d : Device) :
    HaltedWith n c d (post (d.stream n).target c (haltStream n d)) := by
  have hposted := posted_post (d.stream n).target c (haltStream n d)
  refine ⟨?_, fun m => ?_, hposted.congr rfl rfl rfl rfl rfl⟩
  · rw [post_frame, haltStream_frame]
  · rw [post_stream, haltStream_stream]

/-- A halt that a completion of the stream's follows (R127). -/
theorem haltedWith_postStream (n : StreamId) (kind : Byte) (status : Status) (x1 x2 : W32) (d : Device) :
    HaltedWith n (plainCompletion (.stream n) kind status 0 d.tb.now 0 (d.stream n).head x1 x2) d
      (postStream n kind status 0 (haltStream n d).tb.now 0 x1 x2 (haltStream n d)) := by
  have hself : (haltStream n d).stream n = (d.stream n).afterHalt := by rw [haltStream_stream, if_pos rfl]
  have hpost : postStream n kind status 0 (haltStream n d).tb.now 0 x1 x2 (haltStream n d) =
      post (d.stream n).target (plainCompletion (.stream n) kind status 0 d.tb.now 0 (d.stream n).head x1 x2)
        (haltStream n d) := by
    unfold postStream streamCompletion
    rw [hself]
    rfl
  rw [hpost]
  exact haltedWith_post ..

/-- A stream whose tail has been written (R120). -/
def Stream.tailed (i : Nat) (x : Stream) : Stream :=
  { x with tail := i, request := if ringSpan i x.head x.size = fetchedCount x then withdraw x.request else x.request }

/-- A tail write to a stream in use writes the tail, or halts the stream (R120, R128). -/
theorem writeTail_of_active {n : StreamId} {i : Nat} {d : Device} (hactive : (d.stream n).state = .running ∨
    (d.stream n).state = .waiting ∨ (d.stream n).state = .halted) : writeTail n i d =
    if tailFits (d.stream n) i then d.modStream n (fun x => (x.tailed i).refetched d.threshold) else badTail n i d := by
  have hwritten : fetchTest n (d.modStream n (Stream.tailed i)) =
      d.modStream n fun x => (x.tailed i).refetched d.threshold := by
    rw [fetchTest_eq_modStream, Device.modStream_modStream]
    rfl
  rw [← hwritten]
  unfold writeTail
  rcases hactive with h | h | h <;> rw [h] <;> rfl

theorem writeTail_of_ignored {n : StreamId} {i : Nat} {d : Device}
    (h : (d.stream n).state = .idle ∨ (d.stream n).state = .stopping) : writeTail n i d = cmdIgnored d := by
  unfold writeTail
  rcases h with h | h <;> rw [h]

theorem tailFits_iff {x : Stream} {i : Nat} :
    tailFits x i = true ↔ i < x.size ∧ fetchedCount x ≤ ringSpan i x.head x.size := by simp [tailFits]

/-! ## The tail of the control ring (R158) -/

/-- The control ring processor after its fetch test (R159). -/
def Control.refetched (c : Control) : Control :=
  if c.mode = .on ∧ c.request = .idle ∧ c.buffer.length < 4 ∧ controlFetched c < ringSpan c.tail c.head c.size then
    { c with request := .pending } else c

/-- The fetch test touches the control ring processor alone (R159). -/
theorem controlFetchTest_eq (d : Device) : controlFetchTest d = { d with ctl := d.ctl.refetched } := by
  unfold controlFetchTest Control.refetched
  have hplaces : Config.prefetchPlaces = 4 := rfl
  simp only [hplaces, Bool.and_eq_true, beq_iff_eq, decide_eq_true_eq, and_assoc]
  split <;> rfl

/-- The control ring processor after its tail has been written (R158). -/
def Control.tailed (i : Nat) (c : Control) : Control :=
  { c with tail := i, request := if ringSpan i c.head c.size = controlFetched c then withdraw c.request else c.request }

/-- A tail write to the control ring writes the tail when it passes its check (R158). -/
theorem writeControlTail_eq (i : Nat) (d : Device) : writeControlTail i d =
    if d.ctl.mode = .on ∧ i < d.ctl.size ∧ controlFetched d.ctl ≤ ringSpan i d.ctl.head d.ctl.size then
      { d with ctl := (d.ctl.tailed i).refetched } else cmdIgnored d := by
  unfold writeControlTail
  dsimp only
  rw [controlFetchTest_eq]
  by_cases hmode : d.ctl.mode = .on
  · by_cases hsize : i < d.ctl.size
    · by_cases hspan : controlFetched d.ctl ≤ ringSpan i d.ctl.head d.ctl.size
      · rw [if_neg (not_not.mpr hmode), if_neg (not_le.mpr hsize), if_neg (not_lt.mpr hspan),
          if_pos ⟨hmode, hsize, hspan⟩]
        rfl
      · rw [if_neg (not_not.mpr hmode), if_neg (not_le.mpr hsize), if_pos (not_le.mp hspan), if_neg fun h => hspan h.2.2]
    · rw [if_neg (not_not.mpr hmode), if_pos (not_lt.mp hsize), if_neg fun h => hsize h.2.1]
  · rw [if_pos hmode, if_neg fun h => hmode h.1]

/-! ## Selectors -/

/-- A word with a bit outside its fields, or whose selector names no ring (R165). -/
theorem queueIndexValid_of_invalid {word : W32}
    (h : word &&& 0xFFE0F000#32 ≠ 0 ∨ (8 < selectorOf word ∧ selectorOf word < 16) ∨ 19 < selectorOf word) :
    queueIndexValid word = false := by
  rcases h with h | h
  · have hclean : queueIndexClean word = false := beq_eq_false_iff_ne.mpr h
    rw [queueIndexValid, hclean, Bool.and_false]
  · have hvalid : selectorValid (selectorOf word) = false := by
      rw [selectorValid, Bool.or_eq_false_iff, Bool.and_eq_false_iff, decide_eq_false_iff_not, decide_eq_false_iff_not,
        decide_eq_false_iff_not]
      omega
    rw [queueIndexValid, hvalid, Bool.false_and]

/-- Settles O45. -/
theorem ringIndexWrites : Obligations.RingIndexWrites := by
  intro s hsettled
  have ⟨hreset, hcalm⟩ := hsettled
  refine ⟨fun n index => ?_, fun q index => ?_, fun index => ?_, fun word h => ?_⟩
  · intro y i fits z
    have hfits : tailFits y i = true ↔ fits := tailFits_iff
    have hexec := (exec_tailWrite n index s).trans (event_of_calm hreset hcalm)
    refine ⟨fun h => ignored_of_event hsettled (exec_tailWrite n index s) (writeTail_of_ignored h), fun hactive => ?_⟩
    rw [writeTail_of_active hactive] at hexec
    refine ⟨fun h => ?_, fun h => ?_⟩
    · rw [if_pos (hfits.mpr h)] at hexec
      exact ⟨_, hexec, rfl, rfl, fun m => Device.modStream_stream ..⟩
    · rw [if_neg (mt hfits.mp h)] at hexec
      exact ⟨_, hexec, rfl, haltedWith_postStream n 0 .streamHalted _ _ s.dev⟩
  · intro c i ok
    have hexec := (exec_headWrite q index s).trans (event_of_calm hreset hcalm)
    refine ⟨fun h => ?_, fun h => ?_⟩
    · rw [writeHead, if_pos h] at hexec
      exact ⟨_, hexec, rfl, rfl, fun k => Device.modQueue_queue ..⟩
    · exact ignored_of_event hsettled (exec_headWrite q index s) (if_neg h)
  · intro c i ok z refetched
    have hexec := (exec_controlRingTailWrite index s).trans (event_of_calm hreset hcalm)
    refine ⟨fun h => ?_, fun h => ?_⟩
    · rw [writeControlTail_eq, if_pos h] at hexec
      have hrefetched : (c.tailed i).refetched = refetched := by
        have hmode : (c.tailed i).mode = .on := h.1
        exact if_congr (and_iff_right hmode) rfl rfl
      rw [← hrefetched]
      exact hexec
    · exact ignored_of_event hsettled (exec_controlRingTailWrite index s) ((writeControlTail_eq ..).trans (if_neg h))
  · refine ignored_of_event hsettled (exec_invalidSelector word s) ?_
    rw [queueIndexValid_of_invalid h]
    rfl

end Sys2Proof.Machine
end

section
/-! SUPPORT. EVENT, EVENT_MASK and the attention of the queues (8.7, 10.2). -/

namespace Sys2Proof.Machine

theorem exec_coalescingTimeout (q : CqId) (s : State) : exec (.coalescingTimeout q) s = event (timerRunsOut q) s := rfl
theorem exec_attnClear (q : CqId) (s : State) : exec (.attnClear q) s = event (clearAttention q) s := rfl
theorem exec_eventClear (w : W32) (s : State) : exec (.eventClear w) s = event (writeEvent w) s := rfl
theorem exec_eventMaskWrite (w : W32) (s : State) : exec (.eventMaskWrite w) s = act (writeEventMask w) s := rfl

/-! ## The clear of an attention bit (R148) -/

/-- At its count threshold or above, a queue whose attention bit is cleared has attention again (R148). -/
def attentionAgain (c : Queue) : Bool := decide (0 < c.unsignalled) && decide (c.countThreshold ≤ c.unsignalled)

/-- A queue after its attention bit has been cleared (R148). -/
def Queue.cleared (c : Queue) : Queue :=
  if attentionAgain c then { c with unsignalled := 0, timer := none }
  else if 0 < c.unsignalled ∧ c.timeThreshold ≠ 0 then { c with timer := some 0 }
  else c

theorem getLsbD_attnBit_nat (q : CqId) (i : Nat) : (attnBit q).getLsbD i = decide (i = q.val) := by
  have hbit : attnBit q = BitVec.twoPow 32 q.val := by revert q; decide
  have hq : q.val < 32 := by omega
  rw [hbit, BitVec.getLsbD_twoPow, decide_eq_true hq, Bool.true_and]
  exact decide_eq_decide.mpr eq_comm

/-- A bit of EVENT after a mask of it has been cleared (R167). -/
theorem getLsbD_clear (x w : W32) (i : Nat) : (x &&& ~~~w).getLsbD i = (x.getLsbD i && !w.getLsbD i) := by
  by_cases hi : i < 32
  · simp [hi]
  · simp [BitVec.getLsbD_of_ge x i (not_lt.mp hi)]

/-- The three outcomes of the clear of an attention bit (R148). -/
theorem clearAttention_eq (q : CqId) (d : Device) : clearAttention q d =
    let v := clearEvent (attnBit q) d
    if attentionAgain (d.queue q) then raiseAttention q v
    else if 0 < (d.queue q).unsignalled ∧ (d.queue q).timeThreshold ≠ 0 then v.modQueue q fun c => { c with timer := some 0 }
    else v := by
  have hqueue : (clearEvent (attnBit q) d).queue q = d.queue q := rfl
  unfold clearAttention
  dsimp only
  rw [hqueue]
  by_cases hnone : (d.queue q).unsignalled = 0
  · have hagain : attentionAgain (d.queue q) = false := by simp [attentionAgain, hnone]
    rw [if_pos hnone, hagain, if_neg Bool.false_ne_true, if_neg fun h => h.1.ne' hnone]
  · have hpos : 0 < (d.queue q).unsignalled := Nat.pos_of_ne_zero hnone
    have hagain : attentionAgain (d.queue q) = decide ((d.queue q).countThreshold ≤ (d.queue q).unsignalled) := by
      simp [attentionAgain, hpos]
    rw [if_neg hnone, hagain]
    simp only [decide_eq_true_eq, hpos, true_and]

/-- What the clear of an attention bit leaves (R148). -/
theorem clearAttention_does (q : CqId) (d : Device) :
    let d' := clearAttention q d
    d' = { d with queues := d'.queues, host := { d.host with event := d'.host.event } } ∧
    (∀ i, d'.host.event.getLsbD i = if i = q.val then attentionAgain (d.queue q) else d.host.event.getLsbD i) ∧
    (∀ k, d'.queue k = if k = q then (d.queue q).cleared else d.queue k) := by
  have hqueue (k : CqId) : (clearEvent (attnBit q) d).queue k = d.queue k := rfl
  have hbit (i : Nat) : (d.host.event &&& ~~~attnBit q).getLsbD i = (d.host.event.getLsbD i && !decide (i = q.val)) := by
    rw [getLsbD_clear, getLsbD_attnBit_nat]
  have hcleared (i : Nat) : (d.host.event &&& ~~~attnBit q).getLsbD i =
      if i = q.val then false else d.host.event.getLsbD i := by
    rw [hbit]; split <;> simp [*]
  dsimp only
  rw [clearAttention_eq, Queue.cleared]
  dsimp only
  cases attentionAgain (d.queue q) with
  | true =>
    refine ⟨rfl, fun i => ?_, fun k => ?_⟩
    · change ((d.host.event &&& ~~~attnBit q) ||| attnBit q).getLsbD i = _
      rw [BitVec.getLsbD_or, hbit, getLsbD_attnBit_nat]
      split <;> simp [*]
    · rw [if_pos rfl, (raiseAttention_does q _).2 k, hqueue, hqueue, if_pos rfl]
  | false =>
    rw [if_neg Bool.false_ne_true, if_neg Bool.false_ne_true]
    by_cases htimer : 0 < (d.queue q).unsignalled ∧ (d.queue q).timeThreshold ≠ 0
    · rw [if_pos htimer, if_pos htimer]
      exact ⟨rfl, hcleared, fun k => by rw [Device.modQueue_queue, hqueue, hqueue]⟩
    · rw [if_neg htimer, if_neg htimer]
      refine ⟨rfl, hcleared, fun k => ?_⟩
      rw [hqueue]
      split
      · next h => rw [h]
      · rfl

/-! ## A write of EVENT (R167) -/

/-- The attention bits that a write of EVENT clears, one queue after another. -/
def clearAttentions (w : W32) (qs : List CqId) (d : Device) : Device :=
  qs.foldl (fun d q => if w &&& attnBit q = 0 then d else clearAttention q d) d

/-- What a write of EVENT leaves of the attention bits of several queues and of the queues (R148). -/
theorem clearAttentions_does (w : W32) (qs : List CqId) (hqs : qs.Nodup) (d : Device) :
    let d' := clearAttentions w qs d
    d' = { d with queues := d'.queues, host := { d.host with event := d'.host.event } } ∧
    (∀ i, (∀ q ∈ qs, i ≠ q.val) → d'.host.event.getLsbD i = d.host.event.getLsbD i) ∧
    (∀ q, d'.host.event.getLsbD q.val = if q ∈ qs ∧ w.getLsbD q.val = true then attentionAgain (d.queue q)
      else d.host.event.getLsbD q.val) ∧
    (∀ q, d'.queue q = if q ∈ qs ∧ w.getLsbD q.val = true then (d.queue q).cleared else d.queue q) := by
  induction qs generalizing d with
  | nil => exact ⟨rfl, fun _ _ => rfl, fun _ => rfl, fun _ => rfl⟩
  | cons k qs ih =>
    obtain ⟨hk, hqs⟩ := List.nodup_cons.mp hqs
    have hstep : clearAttentions w (k :: qs) d =
        clearAttentions w qs (if w.getLsbD k.val then clearAttention k d else d) := by
      have hbit : (w &&& attnBit k = 0) ↔ ¬w.getLsbD k.val = true := by
        rw [← and_attnBit_ne_zero, bne_iff_ne, not_not]
      unfold clearAttentions
      rw [List.foldl_cons, if_congr hbit rfl rfl, ite_not]
    intro d'
    rw [show d' = _ from hstep]
    cases hw : w.getLsbD k.val with
    | false =>
      rw [if_neg Bool.false_ne_true]
      obtain ⟨hframe, hother, hattn, hqueue⟩ := ih hqs d
      have hmem (q : CqId) : (q ∈ k :: qs ∧ w.getLsbD q.val = true) ↔ (q ∈ qs ∧ w.getLsbD q.val = true) := by
        rw [List.mem_cons]
        refine ⟨fun ⟨h, hq⟩ => ⟨h.resolve_left fun h => ?_, hq⟩, fun ⟨h, hq⟩ => ⟨.inr h, hq⟩⟩
        rw [h, hw] at hq
        cases hq
      exact ⟨hframe, fun i hi => hother i fun q hq => hi q (List.mem_cons_of_mem _ hq),
        fun q => (hattn q).trans (if_congr (hmem q).symm rfl rfl), fun q => (hqueue q).trans (if_congr (hmem q).symm rfl rfl)⟩
    | true =>
      rw [if_pos rfl]
      obtain ⟨hframe, hbits, hqueues⟩ := clearAttention_does k d
      obtain ⟨hframe', hother', hattn', hqueue'⟩ := ih hqs (clearAttention k d)
      generalize clearAttentions w qs (clearAttention k d) = y at hframe' hother' hattn' hqueue'
      refine ⟨?_, fun i hi => ?_, fun q => ?_, fun q => ?_⟩
      · refine hframe'.trans ?_
        rw [hframe]
      · rw [hother' i fun q hq => hi q (List.mem_cons_of_mem _ hq), hbits, if_neg (hi k (List.mem_cons_self ..))]
      · rw [hattn', hbits, hqueues]
        by_cases hq : q = k
        · subst hq; simp [hk, hw]
        · have hval : q.val ≠ k.val := fun h => hq (Fin.ext h)
          simp [hq, hval]
      · rw [hqueue', hqueues]
        by_cases hq : q = k
        · subst hq; simp [hk, hw]
        · simp [hq]

/-- One attention bit clears that of one queue. -/
theorem clearAttentions_attnBit (q : CqId) (qs : List CqId) (hqs : qs.Nodup) (d : Device) :
    clearAttentions (attnBit q) qs d = if q ∈ qs then clearAttention q d else d := by
  induction qs generalizing d with
  | nil => rfl
  | cons k qs ih =>
    obtain ⟨hk, hqs⟩ := List.nodup_cons.mp hqs
    have hbit : (attnBit q &&& attnBit k = 0) ↔ q ≠ k := by
      rw [← bne_eq_false_iff_eq, and_attnBit_ne_zero, getLsbD_attnBit, decide_eq_false_iff_not]
    have hstep : clearAttentions (attnBit q) (k :: qs) d =
        clearAttentions (attnBit q) qs (if q ≠ k then d else clearAttention k d) := by
      unfold clearAttentions
      rw [List.foldl_cons, if_congr hbit rfl rfl]
    rw [hstep, ih hqs]
    by_cases hq : q = k
    · subst hq
      rw [if_neg hk, if_neg (not_not.mpr rfl), if_pos (List.mem_cons_self ..)]
    · simp [hq]

/-- A write of one attention bit is the clear of that bit (R148, R167). -/
theorem writeEvent_attnBit (q : CqId) (d : Device) : writeEvent (attnBit q) d = clearAttention q d := by
  have hsplit : writeEvent (attnBit q) d = clearAttention q (clearEvent (attnBit q) d) := by
    exact (clearAttentions_attnBit q allQueues nodup_allQueues _).trans (if_pos (mem_allQueues q))
  have hclear : clearEvent (attnBit q) (clearEvent (attnBit q) d) = clearEvent (attnBit q) d := by
    have hand : d.host.event &&& ~~~attnBit q &&& ~~~attnBit q = d.host.event &&& ~~~attnBit q := by
      rw [BitVec.and_assoc, BitVec.and_self]
    exact congrArg (fun e => ({ d with host := { d.host with event := e } } : Device)) hand
  rw [hsplit, clearAttention, hclear]
  rfl

/-- Some bit is set in both words. -/
theorem and_ne_zero_iff (x y : W32) : (x &&& y != 0) = true ↔ ∃ i, x.getLsbD i = true ∧ y.getLsbD i = true := by
  rw [bne_iff_ne]
  refine ⟨fun h => ?_, fun ⟨i, hx, hy⟩ h => ?_⟩
  · by_contra hnone
    refine h (BitVec.eq_of_getLsbD_eq fun i _ => ?_)
    rw [BitVec.getLsbD_and]
    cases hx : x.getLsbD i
    · simp
    · cases hy : y.getLsbD i
      · simp
      · exact absurd ⟨i, hx, hy⟩ hnone
  · have hi : (x &&& y).getLsbD i = true := by rw [BitVec.getLsbD_and, hx, hy]; rfl
    rw [h] at hi
    simp at hi

/-- Settles O51. -/
theorem eventsAndAttention : Obligations.EventsAndAttention := by
  intro s d
  refine ⟨fun q ⟨hreset, hcalm⟩ => ⟨fun h => ?_, fun h => ?_, ?_⟩, fun w ⟨hreset, hcalm⟩ => ?_, fun w hreset => ?_,
    and_ne_zero_iff ..⟩
  · have hexec := (exec_coalescingTimeout q s).trans (event_of_calm hreset hcalm)
    rw [timerRunsOut, if_pos h] at hexec
    exact ⟨_, hexec, rfl, rfl, (raiseAttention_does q d).2⟩
  · rw [exec_coalescingTimeout, event_of_calm hreset hcalm, timerRunsOut, if_neg h]
  · rw [exec_attnClear, exec_eventClear, event_of_calm hreset hcalm, event_of_calm hreset hcalm, writeEvent_attnBit]
  · have hexec := (exec_eventClear w s).trans (event_of_calm hreset hcalm)
    obtain ⟨hframe, hother, hattn, hqueue⟩ := clearAttentions_does w allQueues nodup_allQueues (clearEvent w d)
    have hevent : (clearEvent w d).host.event = d.host.event &&& ~~~w := rfl
    have hqueues (q : CqId) : (clearEvent w d).queue q = d.queue q := rfl
    refine ⟨_, hexec, rfl, hframe, fun i hi => ?_, fun q => ?_⟩
    · refine (hother i fun q _ h => ?_).trans ?_
      · omega
      · rw [hevent, getLsbD_clear]
    · intro c again
      have hagain : again = (w.getLsbD q.val && attentionAgain c) := Bool.and_assoc ..
      have hattn := hattn q
      have hqueue := hqueue q
      rw [hqueues, hevent, getLsbD_clear] at hattn
      rw [hqueues] at hqueue
      refine ⟨((attnSet_eq _ q).trans hattn).trans ?_, hqueue.trans ?_⟩
      · rw [hagain, attnSet_eq]
        cases w.getLsbD q.val <;> simp [mem_allQueues, c]
      · rw [hagain]
        cases w.getLsbD q.val
        · simp [c]
        · simp [mem_allQueues, Queue.cleared, c]
  · rw [exec_eventMaskWrite, act_of_high hreset]
    rfl

end Sys2Proof.Machine
end

section
/-! SUPPORT. A write of CONTROL that is no access of 32 bits (10.1): as a word of a DISABLE it first takes an instant that is
due, so that it is not without effect. -/

namespace Sys2Proof.Machine

theorem exec_registerWrite (offset size : Nat) (w : W32) (s : State) : exec (.registerWrite offset size w) s =
    act (fun d => writeWindow offset size w (settle (writesDisable offset w) (urgenciesBeforeWrite offset w) d)) s := rfl

/-- Refutes O52: a write of 8 bytes of 0 at the offset of CONTROL takes the instant that is due. -/
theorem not_registerWriteIsItsCommand : ¬ Obligations.RegisterWriteIsItsCommand := by
  intro h
  have hnothing := ((h { dev := markerDue, pending := [] } 0).1 settled_markerDue).1 4 8 (.inl (by decide))
  have hexec : exec (.registerWrite 4 8 0) { dev := markerDue, pending := [] } =
      .next { dev := settle true allButGrant markerDue, pending := [] } := by
    rw [exec_registerWrite, act_of_high (by decide)]
    rfl
  rw [hexec] at hnothing
  injection hnothing with hnothing
  injection hnothing with hnothing
  have hcalendar : ([] : List Entry) = [dueMarker] := settle_markerDue_calendar.symm.trans (congrArg Device.calendar hnothing)
  cases hcalendar

end Sys2Proof.Machine
end

section
/-! SUPPORT. The records of the control ring: how each is taken, what is refused, and the time records (1.3, 1.5, 9.5). -/

namespace Sys2Proof.Machine

/-! ## How a record is taken (R160) -/

/-- What the processor does with a record of each kind; `level` is the sample of a CONFIGURE_LINE. -/
def takeOf (level : Bool) : ControlKind → Record → Device → Device
  | .cNop => takeNop
  | .timeConfig => takeTimeConfig
  | .timeSet => takeTimeSet
  | .timeStep => takeTimeStep
  | .timeRun => takeTimeRun
  | .timeHold => takeTimeHold
  | .configureStream => takeConfigureStream
  | .configureCq => takeConfigureCq
  | .configureLine => takeConfigureLine level
  | .setThreshold => takeSetThreshold
  | .query => takeQuery

/-- The kinds that move device time or the timebase out of RUNNING: an instant due is taken before them (log 3). -/
def movesTime (k : ControlKind) : Bool := k == .timeSet || k == .timeStep || k == .timeHold

/-- Every command of a control kind is the taking of the record at the head (R160). -/
theorem exec_controlCommand (level : Bool) (k : ControlKind) (s : State) : exec (controlCommand level k) s =
    if movesTime k then timeEvent (whenTakes (some k) (takeOf level k)) s
    else event (whenTakes (some k) (takeOf level k)) s := by
  cases k <;> rfl

theorem exec_controlBadKind (s : State) : exec .controlBadKind s = event (whenTakes none takeBadKind) s := rfl
theorem exec_failedPlace (s : State) : exec .failedPlace s = event takeFailedPlace s := rfl

/-- What is calm with an instant due taken into account is calm without. -/
theorem calm_of_calmNow {us : List Urgency} {d : Device} (h : calm true us d = true) : calm false us d = true := by
  rw [calm_iff] at *
  simp only [urgent, Option.or_eq_none_iff] at *
  exact ⟨h.1, rfl⟩

theorem SettledNow.settled {s : State} (h : SettledNow s) : Settled s := ⟨h.1, calm_of_calmNow h.2⟩

/-- With nothing urgent and nothing due the record at the head is taken (R160). -/
theorem exec_controlCommand_of_settledNow {s : State} (hsettled : SettledNow s) (level : Bool) (k : ControlKind) :
    exec (controlCommand level k) s = .next { s with dev := whenTakes (some k) (takeOf level k) s.dev } := by
  rw [exec_controlCommand]
  split
  · exact timeEvent_of_calm hsettled.1 hsettled.2
  · exact event_of_calm hsettled.1 hsettled.settled.2

/-- A record that the processor takes, with nothing due when its kind moves device time (R160). -/
theorem exec_of_takes {s : State} {k : ControlKind} {r : Record} (hsettled : Settled s)
    (hdue : movesTime k = false ∨ SettledNow s) (htakes : Takes s k r) (level : Bool) :
    exec (controlCommand level k) s = .next { s with dev := takeOf level k r s.dev } := by
  rcases hdue with hk | hnow
  · rw [exec_controlCommand, hk, if_neg Bool.false_ne_true, event_of_calm hsettled.1 hsettled.2, whenTakes_of_takes htakes]
  · rw [exec_controlCommand_of_settledNow hnow, whenTakes_of_takes htakes]

/-- The kind byte of each control kind (12.7). -/
def controlKindCode : ControlKind → Byte
  | .cNop => 0x20 | .timeConfig => 0x21 | .timeSet => 0x22 | .timeStep => 0x23 | .timeRun => 0x24 | .timeHold => 0x25
  | .configureStream => 0x26 | .configureCq => 0x27 | .configureLine => 0x28 | .setThreshold => 0x29 | .query => 0x2A

theorem kind_of_controlKind {b : Byte} {k : ControlKind} (h : controlKindOf b = some k) : b = controlKindCode k := by
  unfold controlKindOf at h
  apply BitVec.eq_of_toNat_eq
  split at h
  all_goals cases h
  all_goals assumption

theorem kind_of_takes {s : State} {k : ControlKind} {r : Record} (h : Takes s k r) :
    StreamRecord.kind r = controlKindCode k := kind_of_controlKind h.2.2.2.1

/-! ## Refusals (R160) -/

/-- A refusal consumes its record and posts CONTROL_REFUSED (R160). -/
theorem controlAnswered_refuseControl (r : Record) (code : RefusalCode) (line : Nat) (d : Device) :
    ControlAnswered (StreamRecord.kind r) .controlRefused (StreamRecord.tag r) line (refusalCode code) 0 d
      (refuseControl r code line d) := controlAnswered_postControl ..

/-- With a reserved part set a record of any kind is refused (R160). -/
theorem takeOf_of_reserved {k : ControlKind} {r : Record} (h : reservedClear k r = false) (level : Bool) (d : Device) :
    takeOf level k r d = refuseControl r .badField
      (if k = .configureLine ∧ fieldAt r 4 1 ≤ 31 then fieldAt r 4 1 else 0) d := by
  cases k with
  | configureStream =>
    have hnone : namedStream r = none := by simp [namedStream, h]
    simp [takeOf, takeConfigureStream, hnone]
  | configureCq =>
    have hnone : namedQueue r = none := by simp [namedQueue, h]
    simp [takeOf, takeConfigureCq, hnone]
  | configureLine =>
    have hnone : namedLineMode r = none := by simp [namedLineMode, h]
    simp [takeOf, takeConfigureLine, hnone, lineField]
  | setThreshold => simp [takeOf, takeSetThreshold, h]
  | query => simp [takeOf, takeQuery, queryOk, h]
  | cNop => simp [takeOf, takeNop, h]
  | timeConfig => simp [takeOf, takeTimeConfig, h]
  | timeSet => simp [takeOf, takeTimeSet, h]
  | timeStep => simp [takeOf, takeTimeStep, h]
  | timeRun => simp [takeOf, takeTimeRun, h]
  | timeHold => simp [takeOf, takeTimeHold, h]

/-- A processor that takes no entry leaves the one at its head (R160). -/
theorem whenTakes_of_idle {k : Option ControlKind} {f : Record → Device → Device} {d : Device}
    (h : takesControl d = false) : whenTakes k f d = d := by
  unfold whenTakes
  split
  · rw [h, Bool.false_and, if_neg Bool.false_ne_true]
  · rfl
  · rfl

theorem takeFailedPlace_of_idle {d : Device} (h : takesControl d = false) : takeFailedPlace d = d := by
  unfold takeFailedPlace
  split
  · rw [h, if_neg Bool.false_ne_true]
  · rfl
  · rfl

theorem takesControl_eq_true_iff {d : Device} : takesControl d = true ↔ d.ctl.mode = .on ∧ d.ctl.query = none := by
  simp [takesControl]

/-- Settles O54. -/
theorem controlRefusals : Obligations.ControlRefusals := by
  intro s r level hsettled
  have hevent (f : Device → Device) : event f s = .next { s with dev := f s.dev } :=
    event_of_calm hsettled.1 hsettled.settled.2
  refine ⟨fun hmode hquery hhead => ⟨fun hkind => ?_, fun k hkind hreserved => ?_⟩, fun cause hmode hquery hhead => ?_,
    fun hidle k => ?_⟩
  · obtain ⟨rest, hbuffer⟩ := List.head?_eq_some_iff.mp hhead
    have htakes : whenTakes none takeBadKind s.dev = takeBadKind r s.dev := by
      simp [whenTakes, hbuffer, takesControl, hmode, hquery, hkind]
    have hexec := (exec_controlBadKind s).trans (hevent _)
    rw [htakes] at hexec
    exact ⟨_, hexec, rfl, controlAnswered_refuseControl ..⟩
  · obtain ⟨rest, hbuffer⟩ := List.head?_eq_some_iff.mp hhead
    have htakes : whenTakes (some k) (takeOf level k) s.dev = takeOf level k r s.dev := by
      simp [whenTakes, hbuffer, takesControl, hmode, hquery, hkind]
    have hexec := exec_controlCommand_of_settledNow hsettled level k
    rw [htakes, takeOf_of_reserved hreserved] at hexec
    exact ⟨_, hexec, rfl, controlAnswered_refuseControl ..⟩
  · obtain ⟨rest, hbuffer⟩ := List.head?_eq_some_iff.mp hhead
    have htakes : takeFailedPlace s.dev =
        postControl 0 .controlRefused 0 0 12 (BitVec.ofNat 32 cause) (controlConsume s.dev) := by
      have hon : takesControl s.dev = true := takesControl_eq_true_iff.mpr ⟨hmode, hquery⟩
      unfold takeFailedPlace
      rw [hbuffer]
      exact if_pos hon
    have hexec := (exec_failedPlace s).trans (hevent _)
    rw [htakes] at hexec
    exact ⟨_, hexec, rfl, controlAnswered_postControl ..⟩
  · have hoff : takesControl s.dev = false := by
      refine Bool.eq_false_of_not_eq_true fun h => ?_
      obtain ⟨hmode, hquery⟩ := takesControl_eq_true_iff.mp h
      exact hidle.elim (fun h => h hmode) fun h => h hquery
    refine ⟨?_, ?_, ?_⟩
    · rw [exec_controlCommand_of_settledNow hsettled, whenTakes_of_idle hoff]
    · rw [exec_controlBadKind, hevent, whenTakes_of_idle hoff]
    · rw [exec_failedPlace, hevent, takeFailedPlace_of_idle hoff]

end Sys2Proof.Machine
end

section
/-! SUPPORT. TIME_RUN, TIME_HOLD, TIME_CONFIG, and TIME_SET with an empty calendar (1.3, 1.5). -/

namespace Sys2Proof.Machine

/-- A change of the timebase does not meet the consumption of a control record. -/
theorem controlConsume_modTb (f : Timebase → Timebase) (d : Device) :
    (controlConsume d).modTb f = controlConsume (d.modTb f) := by
  rw [controlConsume_eq, controlConsume_eq]; rfl

/-- A record that changes the timebase and is done (R160). -/
theorem answered_modTb {r : Record} {k : ControlKind} (hkind : StreamRecord.kind r = controlKindCode k)
    (f : Timebase → Timebase) (x1 : W32) (d : Device) :
    ControlAnswered (controlKindCode k) .controlDone (StreamRecord.tag r) 0 x1 0 { d with tb := f d.tb }
      (controlDone r 0 x1 0 ((controlConsume d).modTb f)) := by
  rw [controlConsume_modTb, ← hkind]
  exact controlAnswered_controlDone r 0 x1 0 (d.modTb f)

section
variable {r : Record} {d : Device}

/-- What a TIME_RUN makes of the timebase (R4). -/
theorem takeTimeRun_eq (hclear : reservedClear .timeRun r = true) : takeTimeRun r d =
    controlDone r 0 (tbCode (runTime d)) 0 ((controlConsume d).modTb fun _ => (runTime d).tb) := by
  have hrun : runTime (controlConsume d) = (controlConsume d).modTb fun _ => (runTime d).tb := by
    unfold runTime
    rw [controlConsume_tb]
    cases d.tb.mode with
    | held => cases hpresent : d.tb.present <;> simp [enterRunning, Device.modTb]
    | running => rw [← controlConsume_tb]; rfl
    | lost => rw [← controlConsume_tb]; rfl
  unfold takeTimeRun
  rw [hclear, Bool.not_true, if_neg Bool.false_ne_true]
  dsimp only
  rw [hrun]
  rfl

theorem takeTimeHold_eq (hclear : reservedClear .timeHold r = true) : takeTimeHold r d =
    controlDone r 0 0 0 ((controlConsume d).modTb fun t => { t with mode := .held, divider := 0 }) := by
  unfold takeTimeHold
  rw [hclear]
  rfl

theorem takeTimeConfig_eq (hclear : reservedClear .timeConfig r = true) : takeTimeConfig r d =
    if 1 ≤ fieldAt r 16 2 ∧ fieldAt r 16 2 ≤ 256 ∧ d.tb.mode = .held then
      controlDone r 0 0 0 ((controlConsume d).modTb fun t => { t with prescale := fieldAt r 16 2 })
    else refuseControl r .badField 0 d := by
  unfold takeTimeConfig prescaleOk
  dsimp only
  have hcheck : (!reservedClear .timeConfig r || !(decide (1 ≤ fieldAt r 16 2) && decide (fieldAt r 16 2 ≤ 256)) ||
      d.tb.mode != .held) = !decide (1 ≤ fieldAt r 16 2 ∧ fieldAt r 16 2 ≤ 256 ∧ d.tb.mode = .held) := by
    rw [hclear, Bool.decide_and, Bool.decide_and, Bool.not_and, Bool.not_and, Bool.not_and, Bool.not_true,
      Bool.false_or, Bool.or_assoc]
    rfl
  rw [hcheck]
  by_cases h : 1 ≤ fieldAt r 16 2 ∧ fieldAt r 16 2 ≤ 256 ∧ d.tb.mode = .held
  · rw [if_pos h, decide_eq_true h, Bool.not_true, if_neg Bool.false_ne_true]
  · rw [if_neg h, decide_eq_false h, Bool.not_false, if_pos rfl]

theorem takeTimeSet_of_empty (hclear : reservedClear .timeSet r = true) (hempty : d.calendar = []) : takeTimeSet r d =
    controlDone r 0 0 0 ((controlConsume d).modTb fun t => { t with now := StreamRecord.time r }) := by
  unfold takeTimeSet
  dsimp only
  rw [hclear, hempty]
  rfl

end

/-- Settles O55. -/
theorem timeRecordsSetTimebase : Obligations.TimeRecordsSetTimebase := by
  intro s r hsettled tb answers
  have hdone (k : ControlKind) (htakes : Takes s k r) (x1 : W32) (f : Timebase → Timebase)
      (htake : takeOf false k r s.dev = controlDone r 0 x1 0 ((controlConsume s.dev).modTb f)) :
      answers (controlCommand false k) (controlKindCode k) .controlDone x1 (f tb) := by
    have hexec := exec_of_takes hsettled.settled (.inr hsettled) htakes false
    rw [htake] at hexec
    exact ⟨_, hexec, rfl, answered_modTb (kind_of_takes htakes) f x1 s.dev⟩
  refine ⟨fun htakes => ?_, fun htakes => ?_, fun htakes => ?_, fun htakes hempty => ?_⟩
  · have hrun := takeTimeRun_eq (d := s.dev) htakes.2.2.2.2
    have hanswers (x1 : W32) (tb' : Timebase) (hcode : tbCode (runTime s.dev) = x1) (htb : (runTime s.dev).tb = tb') :
        answers .timeRun 0x24 .controlDone x1 tb' := by
      rw [← htb]
      rw [hcode] at hrun
      exact hdone .timeRun htakes x1 (fun _ => (runTime s.dev).tb) hrun
    refine ⟨fun hmode hpresent => ?_, fun hmode hpresent => ?_, fun hmode => ?_, fun hmode => ?_⟩
    · have heq : runTime s.dev = enterRunning s.dev := by
        unfold runTime; rw [show s.dev.tb.mode = _ from hmode]; exact if_pos hpresent
      exact hanswers 1 _ (by rw [heq]; rfl) (by rw [heq]; rfl)
    · have heq : runTime s.dev = s.dev.modTb fun t => { t with mode := .lost } := by
        unfold runTime; rw [show s.dev.tb.mode = _ from hmode]; exact if_neg (ne_true_of_eq_false hpresent)
      exact hanswers 2 _ (by rw [heq]; rfl) (by rw [heq]; rfl)
    · have heq : runTime s.dev = s.dev := by unfold runTime; rw [show s.dev.tb.mode = _ from hmode]
      exact hanswers 1 _ (by rw [heq, tbCode, show s.dev.tb.mode = _ from hmode]; rfl) (by rw [heq])
    · have heq : runTime s.dev = s.dev := by unfold runTime; rw [show s.dev.tb.mode = _ from hmode]
      exact hanswers 2 _ (by rw [heq, tbCode, show s.dev.tb.mode = _ from hmode]; rfl) (by rw [heq])
  · exact hdone .timeHold htakes 0 _ (takeTimeHold_eq htakes.2.2.2.2)
  · intro p
    have hconfig := takeTimeConfig_eq (d := s.dev) htakes.2.2.2.2
    refine ⟨fun hmode hlow hhigh => ?_, fun h => ?_⟩
    · exact hdone .timeConfig htakes 0 _ (hconfig.trans (if_pos ⟨hlow, hhigh, hmode⟩))
    · have hexec := exec_of_takes hsettled.settled (.inr hsettled) htakes false
      have hnot : ¬(1 ≤ p ∧ p ≤ 256 ∧ tb.mode = .held) := fun ⟨hlow, hhigh, hmode⟩ => by
        rcases h with h | h | h
        · exact h hmode
        · omega
        · omega
      rw [show takeOf false .timeConfig r s.dev = _ from hconfig.trans (if_neg hnot)] at hexec
      refine ⟨_, hexec, rfl, ?_⟩
      have hrefused := controlAnswered_refuseControl r .badField 0 s.dev
      rw [kind_of_takes htakes] at hrefused
      exact hrefused
  · exact hdone .timeSet htakes 0 _ (takeTimeSet_of_empty htakes.2.2.2.2 hempty)

end Sys2Proof.Machine
end

section
/-! SUPPORT. CONFIGURE_STREAM, CONFIGURE_CQ, CONFIGURE_LINE and SET_THRESHOLD (4.3, 7.3, 8.2). -/

namespace Sys2Proof.Machine

/-! ## Ranges -/

/-- The ring sizes are the powers of two from 16 to 4096. -/
theorem ringSizeOk_iff (n : Nat) : ringSizeOk n = true ↔ ∃ j ≤ 12, 4 ≤ j ∧ n = 2 ^ j := by
  simp only [ringSizeOk, List.contains_iff_mem, List.mem_cons, List.not_mem_nil, or_false]
  refine ⟨fun h => ?_, fun ⟨j, hmost, hleast, hn⟩ => ?_⟩
  · rcases h with h | h | h | h | h | h | h | h | h
    · exact ⟨4, by decide, by decide, h⟩
    · exact ⟨5, by decide, by decide, h⟩
    · exact ⟨6, by decide, by decide, h⟩
    · exact ⟨7, by decide, by decide, h⟩
    · exact ⟨8, by decide, by decide, h⟩
    · exact ⟨9, by decide, by decide, h⟩
    · exact ⟨10, by decide, by decide, h⟩
    · exact ⟨11, by decide, by decide, h⟩
    · exact ⟨12, by decide, by decide, h⟩
  · subst hn
    interval_cases j <;> decide

theorem ringBaseOk_iff (base size : Nat) :
    ringBaseOk base size = true ↔ base % 32 = 0 ∧ base + 32 * size ≤ 2 ^ 64 := by
  simp only [ringBaseOk, Bool.and_eq_true, beq_iff_eq, decide_eq_true_eq]

/-- A ring of a stream or a completion queue in range (R118, R138). -/
theorem ringInRange_iff (base size : Nat) :
    RingInRange base size 12 ↔ ringSizeOk size = true ∧ ringBaseOk base size = true := by
  rw [ringSizeOk_iff, ringBaseOk_iff]
  exact ⟨fun ⟨hbase, hlast, hsize⟩ => ⟨hsize, hbase, hlast⟩, fun ⟨hsize, hbase, hlast⟩ => ⟨hbase, hlast, hsize⟩⟩

/-! ## Records that change the part and are done -/

/-- A record whose effect does not meet the consumption of its entry, and that is done (R160). -/
theorem answered_done {r : Record} {k : ControlKind} (hkind : StreamRecord.kind r = controlKindCode k)
    {effect : Device → Device} {d : Device} (hcommutes : effect (controlConsume d) = controlConsume (effect d))
    (line : Nat) (x1 x2 : W32) :
    ControlAnswered (controlKindCode k) .controlDone (StreamRecord.tag r) line x1 x2 (effect d)
      (controlDone r line x1 x2 (effect (controlConsume d))) := by
  rw [hcommutes, ← hkind]
  exact controlAnswered_controlDone r line x1 x2 (effect d)

theorem answered_refused {r : Record} {k : ControlKind} (hkind : StreamRecord.kind r = controlKindCode k)
    (code : RefusalCode) (line : Nat) (d : Device) :
    ControlAnswered (controlKindCode k) .controlRefused (StreamRecord.tag r) line (refusalCode code) 0 d
      (refuseControl r code line d) := by
  rw [← hkind]
  exact controlAnswered_refuseControl r code line d

theorem controlConsume_modStream (n : StreamId) (f : Stream → Stream) (d : Device) :
    (controlConsume d).modStream n f = controlConsume (d.modStream n f) := by
  rw [controlConsume_eq, controlConsume_eq]; rfl

theorem controlConsume_modQueue (q : CqId) (f : Queue → Queue) (d : Device) :
    (controlConsume d).modQueue q f = controlConsume (d.modQueue q f) := by
  rw [controlConsume_eq, controlConsume_eq]; rfl

theorem controlConsume_modLine (l : LineId) (f : Line → Line) (d : Device) :
    (controlConsume d).modLine l f = controlConsume (d.modLine l f) := by
  rw [controlConsume_eq, controlConsume_eq]; rfl

/-! ## CONFIGURE_STREAM (R118) -/

section
variable {r : Record}

/-- A CONFIGURE_STREAM with a field out of range names no stream. -/
theorem namedStream_eq_none (h : fieldAt r 4 1 = 0 ∨ 8 < fieldAt r 4 1 ∨
    ¬RingInRange (fieldAt r 8 8) (fieldAt r 16 2) 12 ∨ 7 < fieldAt r 5 1 ∨ fieldAt r 18 2 = 0 ∨ 512 < fieldAt r 18 2 ∨
    3 < fieldAt r 6 1) : namedStream r = none := by
  rw [ringInRange_iff] at h
  refine if_neg fun hok => ?_
  simp only [Bool.and_eq_true, decide_eq_true_eq] at hok
  obtain ⟨⟨⟨⟨⟨⟨⟨⟨hone, height⟩, hsize⟩, hbase⟩, hprio⟩, hquota⟩, hmost⟩, htarget⟩, -⟩ := hok
  rcases h with h | h | h | h | h | h | h
  · omega
  · omega
  · exact h ⟨hsize, hbase⟩
  all_goals omega

theorem namedStream_eq_some {n : StreamId} (hclear : reservedClear .configureStream r = true)
    (hring : RingInRange (fieldAt r 8 8) (fieldAt r 16 2) 12) (hn : fieldAt r 4 1 = n.val + 1) (htarget : fieldAt r 6 1 ≤ 3)
    (hprio : fieldAt r 5 1 ≤ 7) (hleast : 1 ≤ fieldAt r 18 2) (hmost : fieldAt r 18 2 ≤ 512) : namedStream r = some n := by
  obtain ⟨hsize, hbase⟩ := (ringInRange_iff ..).mp hring
  have hlow : 1 ≤ fieldAt r 4 1 := by omega
  have hhigh : fieldAt r 4 1 ≤ 8 := by omega
  have hnamed : Fin.ofNat 8 (fieldAt r 4 1 - 1) = n := by
    rw [hn]
    exact Fin.ext (Nat.mod_eq_of_lt n.isLt)
  unfold namedStream
  dsimp only
  rw [hnamed]
  refine if_pos ?_
  simp only [Bool.and_eq_true, decide_eq_true_eq]
  exact ⟨⟨⟨⟨⟨⟨⟨⟨hlow, hhigh⟩, hsize⟩, hbase⟩, hprio⟩, hleast⟩, hmost⟩, htarget⟩, hclear⟩

theorem namedTarget_eq {q : CqId} (h : fieldAt r 6 1 = q.val) : namedTarget r = q := by
  rw [namedTarget, h]
  exact Fin.ext (Nat.mod_eq_of_lt q.isLt)

/-! ## CONFIGURE_CQ (R138) -/

theorem namedQueue_eq_none (h : 3 < fieldAt r 4 1 ∨ ¬RingInRange (fieldAt r 8 8) (fieldAt r 16 2) 12 ∨
    fieldAt r 5 1 = 0) : namedQueue r = none := by
  rw [ringInRange_iff] at h
  refine if_neg fun hok => ?_
  simp only [Bool.and_eq_true, decide_eq_true_eq] at hok
  obtain ⟨⟨⟨⟨hthree, hsize⟩, hbase⟩, hcount⟩, -⟩ := hok
  rcases h with h | h | h
  · omega
  · exact h ⟨hsize, hbase⟩
  · omega

theorem namedQueue_eq_some {q : CqId} (hclear : reservedClear .configureCq r = true)
    (hring : RingInRange (fieldAt r 8 8) (fieldAt r 16 2) 12) (hq : fieldAt r 4 1 = q.val) (hcount : 1 ≤ fieldAt r 5 1) :
    namedQueue r = some q := by
  obtain ⟨hsize, hbase⟩ := (ringInRange_iff ..).mp hring
  have hthree : fieldAt r 4 1 ≤ 3 := by omega
  have hnamed : Fin.ofNat 4 (fieldAt r 4 1) = q := by
    rw [hq]
    exact Fin.ext (Nat.mod_eq_of_lt q.isLt)
  unfold namedQueue
  dsimp only
  rw [hnamed]
  refine if_pos ?_
  simp only [Bool.and_eq_true, decide_eq_true_eq]
  exact ⟨⟨⟨⟨hthree, hsize⟩, hbase⟩, hcount⟩, hclear⟩

/-! ## CONFIGURE_LINE (R67) -/

theorem lineModeOf_eq_none {n : Nat} (h : 2 < n) : lineModeOf n = none := by
  unfold lineModeOf
  split
  · omega
  · omega
  · omega
  · rfl

theorem namedLineMode_eq_none (h : 31 < fieldAt r 4 1 ∨ 2 < fieldAt r 5 1 ∨ 1 < fieldAt r 6 1 ∨ 15 < fieldAt r 7 1) :
    namedLineMode r = none := by
  unfold namedLineMode
  split
  · next hok =>
    simp only [Bool.and_eq_true, decide_eq_true_eq] at hok
    obtain ⟨⟨hsafe, hfilter⟩, -⟩ := hok
    rcases h with h | h | h | h
    · have hnone : namedLine r = none := if_neg (by omega)
      rw [hnone]
    · rw [lineModeOf_eq_none h]
      cases namedLine r <;> rfl
    · omega
    · omega
  · rfl

theorem namedLineMode_eq_some {l : LineId} {m : LineMode} (hclear : reservedClear .configureLine r = true)
    (hl : fieldAt r 4 1 = l.val) (hfilter : fieldAt r 7 1 ≤ 15) (hsafe : fieldAt r 6 1 ≤ 1)
    (hm : lineModeOf (fieldAt r 5 1) = some m) : namedLineMode r = some (l, m) := by
  have hline : namedLine r = some l := by
    have hle : fieldAt r 4 1 ≤ 31 := by omega
    refine (if_pos hle).trans (congrArg some ?_)
    rw [hl]
    exact Fin.ext (Nat.mod_eq_of_lt l.isLt)
  unfold namedLineMode
  rw [hline, hm]
  refine if_pos ?_
  simp only [Bool.and_eq_true, decide_eq_true_eq]
  exact ⟨⟨hsafe, hfilter⟩, hclear⟩

/-- A CONFIGURE_LINE in range finds its line busy, or configures it (R67 to R69). -/
theorem takeConfigureLine_eq {l : LineId} {m : LineMode} {level : Bool} {d : Device}
    (hnamed : namedLineMode r = some (l, m)) : takeConfigureLine level r d =
      if (d.line l).owner.isSome = true ∨ 0 < watchCount d l then refuseControl r .lineBusy (lineField r) d
      else controlDone r (lineField r) (BitVec.ofNat 32 (levelTaken (configuredLine r m level (d.line l))).toNat) 0
        ((controlConsume d).modLine l (configuredLine r m level)) := by
  have hline : ((controlConsume d).modLine l (configuredLine r m level)).line l = configuredLine r m level (d.line l) := by
    rw [Device.modLine_line_self, controlConsume_eq]; rfl
  unfold takeConfigureLine
  rw [hnamed]
  dsimp only
  rw [hline]
  exact if_congr (by simp) rfl rfl

theorem lineField_eq {l : LineId} (hl : fieldAt r 4 1 = l.val) : lineField r = l.val := by
  have hle : fieldAt r 4 1 ≤ 31 := by omega
  exact (if_pos hle).trans hl

end

/-! ## SET_THRESHOLD (R119) -/

/-- A stream under a new threshold: a pending request withdrawn below it, the fetch test at or above it (R119). -/
def Stream.underThreshold (v : Nat) (x : Stream) : Stream :=
  if x.prio < v then { x with request := withdraw x.request } else x.refetched v

/-- The streams visited one after another under a new threshold. -/
theorem foldl_underThreshold (ns : List StreamId) (d : Device) : ns.foldl (fun d n =>
      if (d.stream n).prio < d.threshold then d.modStream n (fun s => { s with request := withdraw s.request })
      else fetchTest n d) d = ns.foldl (fun d n => d.modStream n (Stream.underThreshold d.threshold)) d := by
  congr 1
  funext d n
  have hmod (f g : Stream → Stream) (h : f (d.stream n) = g (d.stream n)) : d.modStream n f = d.modStream n g := by
    unfold Device.modStream
    exact congrArg (fun x => ({ d with streams := d.streams.set n x } : Device)) h
  by_cases h : (d.stream n).prio < d.threshold
  · rw [if_pos h]
    exact hmod _ _ (if_pos h).symm
  · rw [if_neg h, fetchTest_eq_modStream]
    exact hmod _ _ (if_neg h).symm

/-- What the visit of several streams leaves (R119). -/
theorem foldl_modStream_does (v : Nat) (ns : List StreamId) (hns : ns.Nodup) (d : Device)
    (hv : d.threshold = v) :
    let d' := ns.foldl (fun d n => d.modStream n (Stream.underThreshold d.threshold)) d
    d' = { d with streams := d'.streams } ∧
    ∀ n, d'.stream n = if n ∈ ns then (d.stream n).underThreshold v else d.stream n := by
  induction ns generalizing d with
  | nil => exact ⟨rfl, fun _ => rfl⟩
  | cons k ns ih =>
    obtain ⟨hk, hns⟩ := List.nodup_cons.mp hns
    obtain ⟨hframe, hstream⟩ := ih hns (d.modStream k (Stream.underThreshold d.threshold)) hv
    rw [List.foldl_cons]
    refine ⟨hframe.trans rfl, fun n => ?_⟩
    rw [hstream n, Device.modStream_stream, hv]
    by_cases hn : n = k
    · subst hn; simp [hk]
    · simp [hn]

/-- What a new threshold makes of the part (R119). -/
theorem applyThreshold_does (v : Nat) (d : Device) (hv : d.threshold = v) :
    applyThreshold d = { d with streams := (applyThreshold d).streams } ∧
      ∀ n, (applyThreshold d).stream n = (d.stream n).underThreshold v := by
  have heq : applyThreshold d = allStreams.foldl (fun d n => d.modStream n (Stream.underThreshold d.threshold)) d :=
    foldl_underThreshold allStreams d
  obtain ⟨hframe, hstream⟩ := foldl_modStream_does v allStreams nodup_allStreams d hv
  rw [heq]
  exact ⟨hframe, fun n => (hstream n).trans (if_pos (mem_allStreams n))⟩

/-- Settles O57. -/
theorem configurationRecordsWrite : Obligations.ConfigurationRecordsWrite := by
  unfold Obligations.ConfigurationRecordsWrite
  intro s r hsettled d answers ring
  have hrefused (level : Bool) (k : ControlKind) (hk : movesTime k = false) (htakes : Takes s k r) (code : RefusalCode)
      (line : Nat) (htake : takeOf level k r d = refuseControl r code line d) :
      answers (controlCommand level k) (controlKindCode k) .controlRefused line (refusalCode code) 0 d := by
    have hexec := exec_of_takes hsettled (.inl hk) htakes level
    rw [show takeOf level k r s.dev = _ from htake] at hexec
    exact ⟨_, hexec, rfl, answered_refused (kind_of_takes htakes) code line d⟩
  have hdone (level : Bool) (k : ControlKind) (hk : movesTime k = false) (htakes : Takes s k r) (line : Nat) (x1 x2 : W32)
      (effect : Device → Device) (hcommutes : effect (controlConsume d) = controlConsume (effect d))
      (htake : takeOf level k r d = controlDone r line x1 x2 (effect (controlConsume d))) :
      answers (controlCommand level k) (controlKindCode k) .controlDone line x1 x2 (effect d) := by
    have hexec := exec_of_takes hsettled (.inl hk) htakes level
    rw [show takeOf level k r s.dev = _ from htake] at hexec
    exact ⟨_, hexec, rfl, answered_done (kind_of_takes htakes) hcommutes line x1 x2⟩
  refine ⟨fun htakes h => ?_, fun htakes h => ?_, fun level htakes h => ?_, ?_, ?_, ?_, ?_⟩
  · refine hrefused false .configureStream rfl htakes .badField 0 ?_
    rw [takeOf, takeConfigureStream, namedStream_eq_none h]
  · refine hrefused false .configureCq rfl htakes .badField 0 ?_
    rw [takeOf, takeConfigureCq, namedQueue_eq_none h]
  · refine hrefused level .configureLine rfl htakes .badField (lineField r) ?_
    rw [takeOf, takeConfigureLine, namedLineMode_eq_none h]
  · intro n q htakes hring hn hq hprio hleast hmost
    have ⟨_, _, _, _, hclear⟩ := htakes
    have hnamed := namedStream_eq_some hclear hring hn (by omega) hprio hleast hmost
    have htake : takeOf false .configureStream r d = if (d.stream n).state ≠ .idle then refuseControl r .streamBusy 0 d
        else if (d.queue q).state ≠ .active then refuseControl r .badField 0 d
        else controlDone r 0 (BitVec.ofNat 32 (n.val + 1)) 0 ((controlConsume d).modStream n (configuredStream r)) := by
      rw [takeOf, takeConfigureStream, hnamed, ← namedTarget_eq hq]
    refine ⟨fun hbusy => ?_, fun hidle hqueue => ?_, fun hidle hqueue => ?_⟩
    · exact hrefused false .configureStream rfl htakes .streamBusy 0 (htake.trans (if_pos hbusy))
    · exact hrefused false .configureStream rfl htakes .badField 0
        (htake.trans ((if_neg (not_not.mpr hidle)).trans (if_pos hqueue)))
    · have h := hdone false .configureStream rfl htakes 0 _ 0 (fun d => d.modStream n (configuredStream r))
        (controlConsume_modStream ..) (htake.trans ((if_neg (not_not.mpr hidle)).trans (if_neg (not_not.mpr hqueue))))
      rw [← namedTarget_eq hq]
      exact h
  · intro q htakes hring hq hcount
    have ⟨_, _, _, _, hclear⟩ := htakes
    have hnamed := namedQueue_eq_some hclear hring hq hcount
    have htake : takeOf false .configureCq r d = if (d.queue q).state = .active then refuseControl r .cqBusy 0 d
        else controlDone r 0 (BitVec.ofNat 32 q.val) 0 ((controlConsume d).modQueue q (configuredQueue r)) := by
      rw [takeOf, takeConfigureCq, hnamed]
    refine ⟨fun hbusy => ?_, fun hidle => ?_⟩
    · exact hrefused false .configureCq rfl htakes .cqBusy 0 (htake.trans (if_pos hbusy))
    · exact hdone false .configureCq rfl htakes 0 _ 0 (fun d => d.modQueue q (configuredQueue r))
        (controlConsume_modQueue ..) (htake.trans (if_neg hidle))
  · intro l level safe htakes hl hfilter hsafe hmode busy becomes
    have ⟨_, _, _, _, hclear⟩ := htakes
    have hfield := lineField_eq hl
    have hle : fieldAt r 6 1 ≤ 1 := by rw [hsafe]; exact Bool.toNat_le safe
    have htake (m : LineMode) (hm : lineModeOf (fieldAt r 5 1) = some m) := takeConfigureLine_eq (level := level) (d := d)
      (namedLineMode_eq_some hclear hl hfilter hle hm)
    have hbecomes (hfree : ¬busy) (m : LineMode) (hm : lineModeOf (fieldAt r 5 1) = some m) :
        answers (.configureLine level) 0x28 .controlDone l.val
          (BitVec.ofNat 32 (levelTaken (configuredLine r m level (d.line l))).toNat) 0
          (d.modLine l (configuredLine r m level)) :=
      hdone level .configureLine rfl htakes l.val _ 0 (fun d => d.modLine l (configuredLine r m level))
        (controlConsume_modLine ..) (by rw [← hfield]; exact (htake m hm).trans (if_neg hfree))
    have hconfigured (m : LineMode) : configuredLine r m level = fun x => { x with
        mode := m, safe := safe, filterLength := fieldAt r 7 1, agree := 0,
        out := if m = .output then safe else false, filtered := if m = .input then level else false,
        sampled := false } := by
      funext x
      have hbool : (fieldAt r 6 1 == 1) = safe := by rw [hsafe]; cases safe <;> rfl
      unfold configuredLine
      rw [hbool]
      cases m <;> rfl
    refine ⟨fun hbusy => ?_, fun hfree hzero => ?_, fun hfree hone => ?_, fun hfree htwo => ?_⟩
    · have hm : ∃ m, lineModeOf (fieldAt r 5 1) = some m := by
        generalize fieldAt r 5 1 = k at hmode
        interval_cases k <;> exact ⟨_, rfl⟩
      obtain ⟨m, hm⟩ := hm
      rw [← hfield]
      exact hrefused level .configureLine rfl htakes .lineBusy (lineField r) ((htake m hm).trans (if_pos hbusy))
    · have h := hbecomes hfree .unassigned (by rw [hzero]; rfl)
      rw [hconfigured] at h
      exact h
    · have h := hbecomes hfree .output (by rw [hone]; rfl)
      rw [hconfigured] at h
      exact h
    · have h := hbecomes hfree .input (by rw [htwo]; rfl)
      rw [hconfigured] at h
      exact h
  · intro htakes v
    have ⟨_, _, _, _, hclear⟩ := htakes
    refine ⟨fun hmost => ?_, fun hv => ?_⟩
    · refine hrefused false .setThreshold rfl htakes .badField 0 ?_
      rw [takeOf, takeSetThreshold, show decide (7 < fieldAt r 4 1) = true from decide_eq_true hmost, Bool.true_or]
      rfl
    · have hexec := exec_of_takes hsettled (.inl rfl) htakes false
      obtain ⟨hframe, hstream⟩ := applyThreshold_does v { controlConsume d with threshold := v } rfl
      have htake : takeOf false .setThreshold r d = controlDone r 0 (BitVec.ofNat 32 v) (BitVec.ofNat 32 d.threshold)
          (applyThreshold { controlConsume d with threshold := v }) := by
        unfold takeOf takeSetThreshold
        dsimp only
        rw [hclear, decide_eq_false (not_lt.mpr hv), Bool.not_true, Bool.or_false, if_neg Bool.false_ne_true]
      generalize applyThreshold { controlConsume d with threshold := v } = y at hframe hstream htake
      have hconsume : y = controlConsume { d with threshold := v, streams := y.streams } := by
        rw [controlConsume_eq] at hframe ⊢
        exact hframe
      rw [show takeOf false .setThreshold r s.dev = _ from htake] at hexec
      have hdoneOf := controlAnswered_controlDone r 0 (BitVec.ofNat 32 v) (BitVec.ofNat 32 d.threshold)
        { d with threshold := v, streams := y.streams }
      rw [← hconsume, kind_of_takes htakes] at hdoneOf
      have hstreams : (controlDone r 0 (BitVec.ofNat 32 v) (BitVec.ofNat 32 d.threshold) y).streams = y.streams := by
        rw [controlDone, postControl, post_frame]
      refine ⟨_, hexec, rfl, ?_, fun n => ?_⟩
      · dsimp only
        rw [hstreams]
        exact hdoneOf
      · refine (congrArg (fun st : Vector Stream 8 => st.get n) hstreams).trans ((hstream n).trans ?_)
        rw [controlConsume_eq]
        rfl

end Sys2Proof.Machine
end

section
/-! SUPPORT. The 512 bytes of a snapshot (12.6). -/

namespace Sys2Proof.Machine

/-! ## Blocks of bytes -/

/-- A field within the front part of a run of bytes. -/
theorem bytesAt_within {a b : List Byte} {o n : Nat} (h : o + n ≤ a.length) : bytesAt (a ++ b) o n = bytesAt a o n := by
  rw [bytesAt, bytesAt, List.drop_append_of_le_length (by omega), List.take_append_of_le_length (by simp; omega)]

/-- A field within one of a row of blocks of the same length. -/
theorem bytesAt_block {α : Type} {f : α → List Byte} {w : Nat} (hw : ∀ x, (f x).length = w) {xs : List α} {i o n : Nat}
    (hi : i < xs.length) (ho : o + n ≤ w) : bytesAt (xs.flatMap f) (w * i + o) n = bytesAt (f xs[i]) o n := by
  induction xs generalizing i with
  | nil => exact absurd hi (Nat.not_lt_zero i)
  | cons x xs ih =>
    rw [List.flatMap_cons]
    cases i with
    | zero =>
      rw [Nat.mul_zero, Nat.zero_add, bytesAt_within (by rw [hw]; exact ho)]
      rfl
    | succ i =>
      rw [Nat.mul_succ, bytesAt_behind (by rw [hw]; omega), hw, show w * i + w + o - w = w * i + o by omega,
        ih (Nat.lt_of_succ_lt_succ hi)]
      rfl

theorem length_flatMap_blocks {α : Type} {f : α → List Byte} {w : Nat} (hw : ∀ x, (f x).length = w) (xs : List α) :
    (xs.flatMap f).length = w * xs.length := by
  induction xs with
  | nil => rfl
  | cons x xs ih => rw [List.flatMap_cons, List.length_append, hw, ih, List.length_cons, Nat.mul_succ, Nat.add_comm]

/-- The bound of a field, in bytes. -/
theorem lt_bytes {n v : Nat} (h : v < 2 ^ (8 * n)) : v < 256 ^ n := by
  rwa [show (256 : Nat) = 2 ^ 8 by decide, ← pow_mul]

/-! ## The blocks of a snapshot -/

theorem length_snapshotDevice (d : Device) : (snapshotDevice d).length = 32 := by simp [snapshotDevice]
theorem length_snapshotStream (d : Device) (n : StreamId) : (snapshotStream d n).length = 16 := by simp [snapshotStream]
theorem length_snapshotLine (d : Device) (l : LineId) : (snapshotLine d l).length = 4 := by simp [snapshotLine]
theorem length_snapshotPlayer (d : Device) (p : PlayerId) : (snapshotPlayer d p).length = 2 := by simp [snapshotPlayer]
theorem length_snapshotQueue (d : Device) (q : CqId) : (snapshotQueue d q).length = 16 := by simp [snapshotQueue]

section
variable (d : Device)

theorem length_snapshotStreams : (allStreams.flatMap (snapshotStream d)).length = 128 :=
  length_flatMap_blocks (length_snapshotStream d) allStreams
theorem length_snapshotLines : (allLines.flatMap (snapshotLine d)).length = 128 :=
  length_flatMap_blocks (length_snapshotLine d) allLines
theorem length_snapshotPlayers : (allPlayers.flatMap (snapshotPlayer d)).length = 8 :=
  length_flatMap_blocks (length_snapshotPlayer d) allPlayers
theorem length_snapshotQueues : (allQueues.flatMap (snapshotQueue d)).length = 64 :=
  length_flatMap_blocks (length_snapshotQueue d) allQueues

theorem length_snapshotBytes : (snapshotBytes d).length = 512 := by
  simp only [snapshotBytes, List.length_append, length_snapshotDevice, length_snapshotStreams, length_snapshotLines,
    length_snapshotPlayers, length_snapshotQueues, length_leBytes]

/-- The parts of a snapshot, one behind another. -/
theorem snapshotBytes_eq : snapshotBytes d = snapshotDevice d ++ (allStreams.flatMap (snapshotStream d) ++
    (allLines.flatMap (snapshotLine d) ++ (allPlayers.flatMap (snapshotPlayer d) ++ (leBytes 8 0 ++
      (allQueues.flatMap (snapshotQueue d) ++ leBytes 144 0))))) := by
  simp only [snapshotBytes, List.append_assoc]

/-- A field of the device part (12.6). -/
theorem bytesAt_snapshotDevice {o n : Nat} (h : o + n ≤ 32) :
    bytesAt (snapshotBytes d) o n = bytesAt (snapshotDevice d) o n := by
  rw [snapshotBytes_eq, bytesAt_within (by rw [length_snapshotDevice]; exact h)]

/-- A field of a stream (12.6). -/
theorem bytesAt_snapshotStream (k : StreamId) {o n : Nat} (h : o + n ≤ 16) :
    bytesAt (snapshotBytes d) (32 + 16 * k.val + o) n = bytesAt (snapshotStream d k) o n := by
  have hk : k.val < allStreams.length := k.isLt
  have hget : ∀ k : StreamId, allStreams[k.val]'k.isLt = k := by decide
  have hblock := (bytesAt_block (length_snapshotStream d) hk h).trans
    (congrArg (fun x => bytesAt (snapshotStream d x) o n) (hget k))
  rw [snapshotBytes_eq, bytesAt_behind (by rw [length_snapshotDevice]; omega), length_snapshotDevice,
    bytesAt_within (by rw [length_snapshotStreams]; omega),
    show 32 + 16 * k.val + o - 32 = 16 * k.val + o by omega, hblock]

/-- A field of a line (12.6). -/
theorem bytesAt_snapshotLine (k : LineId) {o n : Nat} (h : o + n ≤ 4) :
    bytesAt (snapshotBytes d) (160 + 4 * k.val + o) n = bytesAt (snapshotLine d k) o n := by
  have hk : k.val < allLines.length := k.isLt
  have hget : ∀ k : LineId, allLines[k.val]'k.isLt = k := by decide
  have hblock := (bytesAt_block (length_snapshotLine d) hk h).trans
    (congrArg (fun x => bytesAt (snapshotLine d x) o n) (hget k))
  rw [snapshotBytes_eq, bytesAt_behind (by rw [length_snapshotDevice]; omega), length_snapshotDevice,
    bytesAt_behind (by rw [length_snapshotStreams]; omega), length_snapshotStreams,
    bytesAt_within (by rw [length_snapshotLines]; omega),
    show 160 + 4 * k.val + o - 32 - 128 = 4 * k.val + o by omega, hblock]

/-- A field of a player (12.6). -/
theorem bytesAt_snapshotPlayer (k : PlayerId) {o n : Nat} (h : o + n ≤ 2) :
    bytesAt (snapshotBytes d) (288 + 2 * k.val + o) n = bytesAt (snapshotPlayer d k) o n := by
  have hk : k.val < allPlayers.length := k.isLt
  have hget : ∀ k : PlayerId, allPlayers[k.val]'k.isLt = k := by decide
  have hblock := (bytesAt_block (length_snapshotPlayer d) hk h).trans
    (congrArg (fun x => bytesAt (snapshotPlayer d x) o n) (hget k))
  rw [snapshotBytes_eq, bytesAt_behind (by rw [length_snapshotDevice]; omega), length_snapshotDevice,
    bytesAt_behind (by rw [length_snapshotStreams]; omega), length_snapshotStreams,
    bytesAt_behind (by rw [length_snapshotLines]; omega), length_snapshotLines,
    bytesAt_within (by rw [length_snapshotPlayers]; omega),
    show 288 + 2 * k.val + o - 32 - 128 - 128 = 2 * k.val + o by omega, hblock]

/-- A field behind the players (12.6). -/
theorem bytesAt_snapshotTail {o n : Nat} (h : 296 ≤ o) : bytesAt (snapshotBytes d) o n =
    bytesAt (leBytes 8 0 ++ (allQueues.flatMap (snapshotQueue d) ++ leBytes 144 0)) (o - 296) n := by
  rw [snapshotBytes_eq, bytesAt_behind (by rw [length_snapshotDevice]; omega), length_snapshotDevice,
    bytesAt_behind (by rw [length_snapshotStreams]; omega), length_snapshotStreams,
    bytesAt_behind (by rw [length_snapshotLines]; omega), length_snapshotLines,
    bytesAt_behind (by rw [length_snapshotPlayers]; omega), length_snapshotPlayers,
    show o - 32 - 128 - 128 - 8 = o - 296 by omega]

/-- A field of a queue (12.6). -/
theorem bytesAt_snapshotQueue (k : CqId) {o n : Nat} (h : o + n ≤ 16) :
    bytesAt (snapshotBytes d) (304 + 16 * k.val + o) n = bytesAt (snapshotQueue d k) o n := by
  have hk : k.val < allQueues.length := k.isLt
  have hget : ∀ k : CqId, allQueues[k.val]'k.isLt = k := by decide
  have hblock := (bytesAt_block (length_snapshotQueue d) hk h).trans
    (congrArg (fun x => bytesAt (snapshotQueue d x) o n) (hget k))
  rw [bytesAt_snapshotTail d (by omega), bytesAt_behind (by rw [length_leBytes]; omega), length_leBytes,
    bytesAt_within (by rw [length_snapshotQueues]; omega),
    show 304 + 16 * k.val + o - 296 - 8 = 16 * k.val + o by omega, hblock]

/-- A run of bytes holds the number `v` in its field of `n` bytes at `o`, when the field can hold it. -/
def HoldsField (b : List Byte) (o n v : Nat) : Prop := v < 2 ^ (8 * n) → bytesAt b o n = v

/-- The fields of the device part (12.6). -/
theorem holds_snapshotDevice :
    HoldsField (snapshotDevice d) 0 1 (deviceModeCode d.ctl.mode) ∧ HoldsField (snapshotDevice d) 1 1 (tbModeCode d.tb.mode) ∧
    HoldsField (snapshotDevice d) 2 6 d.tb.now.toNat ∧ HoldsField (snapshotDevice d) 8 2 d.calendar.length ∧
    HoldsField (snapshotDevice d) 10 2 d.ctl.head ∧ HoldsField (snapshotDevice d) 12 2 d.ctl.tail ∧
    HoldsField (snapshotDevice d) 14 18 0 := by
  unfold snapshotDevice
  simp only [List.append_assoc]
  refine ⟨fun h => ?_, fun h => ?_, fun h => ?_, fun h => ?_, fun h => ?_, fun h => ?_, fun h => ?_⟩ <;>
    have hv := lt_bytes h <;>
    simp [bytesAt_behind, bytesAt_front hv, bytesAt_whole hv]

/-- The fields of a stream (12.6). -/
theorem holds_snapshotStream (k : StreamId) :
    HoldsField (snapshotStream d k) 0 1 (streamStateCode (d.stream k).state) ∧
    HoldsField (snapshotStream d k) 1 1 (waitReasonCode (d.stream k).reason) ∧
    HoldsField (snapshotStream d k) 2 2 (d.stream k).head ∧ HoldsField (snapshotStream d k) 4 2 (d.stream k).tail ∧
    HoldsField (snapshotStream d k) 6 2 (heldCount d k) ∧ HoldsField (snapshotStream d k) 8 6 (d.stream k).anchor.toNat ∧
    HoldsField (snapshotStream d k) 14 1 (d.stream k).prio ∧ HoldsField (snapshotStream d k) 15 1 0 := by
  unfold snapshotStream
  simp only [List.append_assoc]
  refine ⟨fun h => ?_, fun h => ?_, fun h => ?_, fun h => ?_, fun h => ?_, fun h => ?_, fun h => ?_, fun h => ?_⟩ <;>
    have hv := lt_bytes h <;>
    simp [bytesAt_behind, bytesAt_front hv, bytesAt_whole hv]

/-- The fields of a line (12.6). -/
theorem holds_snapshotLine (k : LineId) :
    HoldsField (snapshotLine d k) 0 1 (lineModeCode (d.line k).mode) ∧
    HoldsField (snapshotLine d k) 1 1 (ownerCode (d.line k).owner) ∧
    HoldsField (snapshotLine d k) 2 1 ((levelTaken (d.line k)).toNat + 2 * (d.line k).capture.isSome.toNat) ∧
    HoldsField (snapshotLine d k) 3 1 (watchCount d k) := by
  unfold snapshotLine
  simp only [List.append_assoc]
  refine ⟨fun h => ?_, fun h => ?_, fun h => ?_, fun h => ?_⟩ <;>
    have hv := lt_bytes h <;>
    simp [bytesAt_behind, bytesAt_front hv, bytesAt_whole hv, snapshotLevel]

/-- The fields of a player (12.6). -/
theorem holds_snapshotPlayer (k : PlayerId) :
    HoldsField (snapshotPlayer d k) 0 1 (playerStateCode (d.player k).state) ∧
    HoldsField (snapshotPlayer d k) 1 1 (ownerCode (d.player k).stream) := by
  unfold snapshotPlayer
  refine ⟨fun h => ?_, fun h => ?_⟩ <;>
    have hv := lt_bytes h <;>
    simp [bytesAt_behind, bytesAt_front hv, bytesAt_whole hv]

/-- The fields of a queue (12.6). -/
theorem holds_snapshotQueue (k : CqId) :
    HoldsField (snapshotQueue d k) 0 1 (queueStateCode (d.queue k).state) ∧ HoldsField (snapshotQueue d k) 1 1 0 ∧
    HoldsField (snapshotQueue d k) 2 2 (d.queue k).head ∧ HoldsField (snapshotQueue d k) 4 2 (d.queue k).tail ∧
    HoldsField (snapshotQueue d k) 6 2 0 ∧ HoldsField (snapshotQueue d k) 8 4 (min 0xFFFFFFFF (d.queue k).lost) ∧
    HoldsField (snapshotQueue d k) 12 4 0 := by
  have hmost : Config.max32 = 0xFFFFFFFF := rfl
  unfold snapshotQueue
  simp only [List.append_assoc, hmost]
  refine ⟨fun h => ?_, fun h => ?_, fun h => ?_, fun h => ?_, fun h => ?_, fun h => ?_, fun h => ?_⟩ <;>
    have hv := lt_bytes h <;>
    simp [bytesAt_behind, bytesAt_front hv, bytesAt_whole hv]

/-! ## Where the blocks stand -/

theorem HoldsField.of_bytesAt {b c : List Byte} {o o' n v : Nat} (h : HoldsField b o n v)
    (hat : bytesAt c o' n = bytesAt b o n) :
    HoldsField c o' n v := fun hv => hat.trans (h hv)

/-- The fields that stand for nothing (12.6). -/
theorem holds_snapshotTail : HoldsField (snapshotBytes d) 296 8 0 ∧ HoldsField (snapshotBytes d) 368 144 0 := by
  refine ⟨fun h => ?_, fun h => ?_⟩
  · rw [bytesAt_snapshotTail d (by decide)]
    exact bytesAt_front (lt_bytes h) _
  · rw [bytesAt_snapshotTail d (by decide), bytesAt_behind (by rw [length_leBytes]; decide), length_leBytes,
      bytesAt_behind (by rw [length_snapshotQueues]), length_snapshotQueues]
    exact bytesAt_whole (lt_bytes h)

end

end Sys2Proof.Machine
end

section
/-! SUPPORT. QUERY: its writes, their responses and its consumption (9.6). -/

namespace Sys2Proof.Machine

theorem exec_writeTimeout (i : Nat) (s : State) : exec (.writeTimeout i) s = event (timeOutWrite i) s := rfl
theorem exec_snapshotWriteResponse (i : Nat) (success : Bool) (s : State) :
    exec (.snapshotWriteResponse i success) s = event (answerWrite i .snapshot success) s := rfl
theorem exec_queryConsumed (s : State) : exec .queryConsumed s = act (fun d =>
    let d := settle false beforeQuery d
    if queryAnswered d then consumeQuery d else d) s := rfl

/-! ## The writes of a snapshot (R162) -/

/-- The write of the snapshot's part `j` (R162). -/
def snapshotWrite (a : Addr) (d : Device) (j : Nat) : Write :=
  { identity := d.nextWrite + j, writer := .snapshot, addr := a + BitVec.ofNat 64 (128 * j),
    data := ((snapshotBytes d).drop (128 * j)).take 128, timeout := d.ctl.timeout, elapsed := 0, orphaned := false }

/-- The four writes of a snapshot go out one behind another (R162). -/
theorem issueSnapshot_eq (a : Addr) (bytes : List Byte) (d : Device) (hbytes : snapshotBytes d = bytes) :
    issueSnapshot a bytes d = { d with
      writes := d.writes ++ [snapshotWrite a d 0, snapshotWrite a d 1, snapshotWrite a d 2, snapshotWrite a d 3],
      nextWrite := d.nextWrite + 4 } := by
  have happend : ∀ ws : List Write, ∀ w x y z, (((ws ++ [w]) ++ [x]) ++ [y]) ++ [z] = ws ++ [w, x, y, z] := by
    intro ws w x y z
    simp only [List.append_assoc, List.cons_append, List.nil_append]
  rw [← happend]
  subst hbytes
  unfold snapshotWrite
  generalize snapshotBytes d = bytes
  rfl

/-- The check of a QUERY (R162). -/
theorem queryOk_iff {r : Record} (hclear : reservedClear .query r = true) :
    queryOk r = true ↔ (queryAddress r).toNat % 32 = 0 ∧ (queryAddress r).toNat + 511 < 2 ^ 64 := by
  simp only [queryOk, hclear, Bool.true_and, Bool.and_eq_true, beq_iff_eq, decide_eq_true_eq]

/-! ## The responses (R162, R171) -/

/-- The end of a write of a QUERY's snapshot (R162). -/
theorem endWrite_of_snapshot {w : Write} {q : Query} {i : Nat} {d : Device} (hidentity : w.identity = i)
    (hwriter : w.writer = .snapshot) (horphaned : w.orphaned = false) (hquery : d.ctl.query = some q) (success : Bool) :
    endWrite w success d = { d with
      writes := d.writes.filter (fun y => y.identity != i),
      ctl := { d.ctl with query := some { q with
        answered := q.answered + 1, failures := if success then q.failures else q.failures + 1 } } } := by
  have hcount : countSnapshot success (dropWrite i d) = { d with
      writes := d.writes.filter (fun y => y.identity != i),
      ctl := { d.ctl with query := d.ctl.query.map fun q => { q with
        answered := q.answered + 1, failures := if success then q.failures else q.failures + 1 } } } := rfl
  unfold endWrite
  rw [hidentity, horphaned, hwriter]
  refine (if_neg Bool.false_ne_true).trans (hcount.trans ?_)
  rw [hquery]
  rfl

theorem findWrite_identity {d : Device} {i : Nat} {w : Write} (h : findWrite d i = some w) : w.identity = i :=
  beq_iff_eq.mp (List.find?_some (p := fun w : Write => w.identity == i) h)

/-! ## The consumption (R162) -/

/-- An answered QUERY is consumed, with CONTROL_DONE, or with CONTROL_REFUSED when a write failed (R162). -/
theorem consumeQuery_answers {d : Device} {q : Query} (hquery : d.ctl.query = some q) :
    ControlAnswered 0x2A (if q.failures = 0 then .controlDone else .controlRefused) q.tag 0
      (if q.failures = 0 then 0 else 12) (if q.failures = 0 then 0 else BitVec.ofNat 32 q.failures)
      { d with ctl := { d.ctl with query := none } } (consumeQuery d) := by
  unfold consumeQuery
  rw [hquery]
  dsimp only
  by_cases hfailures : q.failures = 0
  · simp only [hfailures, if_true]
    exact controlAnswered_postControl 0x2A .controlDone q.tag 0 0 0 { d with ctl := { d.ctl with query := none } }
  · simp only [hfailures, if_false]
    exact controlAnswered_postControl 0x2A .controlRefused q.tag 0 12 _ { d with ctl := { d.ctl with query := none } }

/-- The bytes of a snapshot, field by field, and the commands of a QUERY: settles O58. -/
theorem queryWritesSnapshot : Obligations.QueryWritesSnapshot := by
  refine ⟨fun d => ?_, fun s => ?_⟩
  · intro holds numbered
    have hnumbered (n : Option StreamId) : numbered n = ownerCode n := by cases n <;> rfl
    obtain ⟨hmode, htb, hnow, hcalendar, hhead, htail, hrest⟩ := holds_snapshotDevice d
    have hdevice {o n v : Nat} (h : HoldsField (snapshotDevice d) o n v) (ho : o + n ≤ 32) : holds o n v :=
      h.of_bytesAt (bytesAt_snapshotDevice d ho)
    refine ⟨length_snapshotBytes d, ?_, ?_, hdevice hnow (by decide), hdevice hcalendar (by decide),
      hdevice hhead (by decide), hdevice htail (by decide), hdevice hrest (by decide), fun n => ?_, fun l => ?_, fun p => ?_,
      (holds_snapshotTail d).1, fun q => ?_, (holds_snapshotTail d).2⟩
    · have h := hdevice hmode (by decide)
      revert h; cases d.ctl.mode <;> exact id
    · have h := hdevice htb (by decide)
      revert h; cases d.tb.mode <;> exact id
    · intro y o
      obtain ⟨hstate, hreason, hhead, htail, hheld, hanchor, hprio, hrest⟩ := holds_snapshotStream d n
      have hstream {p k v : Nat} (h : HoldsField (snapshotStream d n) p k v) (hp : p + k ≤ 16) : holds (o + p) k v :=
        h.of_bytesAt (bytesAt_snapshotStream d n hp)
      refine ⟨?_, ?_, hstream hhead (by decide), hstream htail (by decide), hstream hheld (by decide),
        hstream hanchor (by decide), hstream hprio (by decide), hstream hrest (by decide)⟩
      · have h := hstream hstate (by decide)
        change holds o 1 (streamStateCode y.state) at h
        revert h; cases y.state <;> exact id
      · have h := hstream hreason (by decide)
        change holds (o + 1) 1 (waitReasonCode y.reason) at h
        revert h; cases y.reason <;> exact id
    · intro x o level
      obtain ⟨hmode, howner, hlevel, hwatch⟩ := holds_snapshotLine d l
      have hline {p k v : Nat} (h : HoldsField (snapshotLine d l) p k v) (hp : p + k ≤ 4) : holds (o + p) k v :=
        h.of_bytesAt (bytesAt_snapshotLine d l hp)
      have hlevelOf : levelTaken (d.line l) = level := by
        change levelTaken x = level
        unfold levelTaken level
        cases x.mode <;> rfl
      rw [hlevelOf] at hlevel
      refine ⟨?_, ?_, hline hlevel (by decide), hline hwatch (by decide)⟩
      · have h := hline hmode (by decide)
        change holds o 1 (lineModeCode x.mode) at h
        revert h; cases x.mode <;> exact id
      · rw [hnumbered]
        exact hline howner (by decide)
    · obtain ⟨hstate, howner⟩ := holds_snapshotPlayer d p
      have hplayer {o k v : Nat} (h : HoldsField (snapshotPlayer d p) o k v) (ho : o + k ≤ 2) :
          holds (288 + 2 * p.val + o) k v := h.of_bytesAt (bytesAt_snapshotPlayer d p ho)
      refine ⟨?_, ?_⟩
      · have h := hplayer hstate (by decide)
        change holds (288 + 2 * p.val) 1 (playerStateCode (d.player p).state) at h
        revert h; cases (d.player p).state <;> exact id
      · have h := hplayer howner (by decide)
        rw [hnumbered, show 289 + 2 * p.val = 288 + 2 * p.val + 1 by omega]
        exact h
    · intro c o
      obtain ⟨hstate, hzero, hhead, htail, hgap, hlost, hrest⟩ := holds_snapshotQueue d q
      have hqueue {p k v : Nat} (h : HoldsField (snapshotQueue d q) p k v) (hp : p + k ≤ 16) : holds (o + p) k v :=
        h.of_bytesAt (bytesAt_snapshotQueue d q hp)
      refine ⟨?_, hqueue hzero (by decide), hqueue hhead (by decide), hqueue htail (by decide), hqueue hgap (by decide),
        hqueue hlost (by decide), hqueue hrest (by decide)⟩
      have h := hqueue hstate (by decide)
      change holds o 1 (queueStateCode c.state) at h
      revert h; cases c.state <;> exact id
  · intro d
    refine ⟨fun r hsettled htakes => ?_, ?_, ?_⟩
    · intro a write
      have ⟨_, _, _, _, hclear⟩ := htakes
      have hexec := exec_of_takes hsettled (.inl rfl) htakes false
      refine ⟨fun hok => ?_, fun hok => ?_⟩
      · refine hexec.trans ?_
        have htake : takeOf false .query r d = { d with
            ctl := { d.ctl with query := some { tag := StreamRecord.tag r, answered := 0, failures := 0 } },
            writes := d.writes ++ [write 0, write 1, write 2, write 3], nextWrite := d.nextWrite + 4 } := by
          unfold takeOf takeQuery
          dsimp only
          rw [(queryOk_iff hclear).mpr hok, Bool.not_true, if_neg Bool.false_ne_true, issueSnapshot_eq _ _ _ rfl]
          rfl
        rw [htake]
      · have hbad : queryOk r = false := Bool.eq_false_of_not_eq_true (mt (queryOk_iff hclear).mp hok)
        have htake : takeOf false .query r d = refuseControl r .badField 0 d := by
          unfold takeOf takeQuery
          dsimp only
          rw [hbad, Bool.not_false, if_pos rfl]
        rw [show takeOf false .query r s.dev = _ from htake] at hexec
        exact ⟨_, hexec, rfl, answered_refused (kind_of_takes htakes) .badField 0 d⟩
    · intro i w q ⟨hreset, hcalm⟩ hfind hwriter horphaned hquery after
      have hidentity := findWrite_identity (d := d) hfind
      have hend (success : Bool) := endWrite_of_snapshot hidentity hwriter horphaned hquery success
      have hanswer (success : Bool) : answerWrite i .snapshot success d = endWrite w success d := by
        unfold answerWrite
        rw [show findWrite d i = some w from hfind]
        exact if_pos hwriter
      have htimeout : timeOutWrite i d = endWrite w false d := by
        unfold timeOutWrite
        rw [show findWrite d i = some w from hfind]
      refine ⟨?_, ?_, ?_⟩
      · rw [exec_snapshotWriteResponse, event_of_calm hreset hcalm, show answerWrite _ _ _ s.dev = _ from hanswer true, hend]
        rfl
      · rw [exec_snapshotWriteResponse, event_of_calm hreset hcalm, show answerWrite _ _ _ s.dev = _ from hanswer false, hend]
        rfl
      · rw [exec_writeTimeout, event_of_calm hreset hcalm, show timeOutWrite _ s.dev = _ from htimeout, hend]
        rfl
    · intro q ⟨hreset, hcalm⟩ hquery hanswered
      have hover : queryAnswered d = true := by
        unfold queryAnswered
        rw [hquery]
        exact decide_eq_true hanswered
      have hexec : exec .queryConsumed s = .next { s with dev := consumeQuery d } := by
        rw [exec_queryConsumed, act_of_high hreset, settle_of_calm hcalm]
        exact congrArg (fun x => Host.Outcome.next { s with dev := x }) (if_pos hover)
      exact ⟨_, hexec, rfl, consumeQuery_answers hquery⟩

end Sys2Proof.Machine
end

section
/-! SUPPORT. The read arbiter (10.3). -/

namespace Sys2Proof.Machine

theorem exec_readGrant (s : State) : exec .readGrant s = act (fun d => grantRead (settle false beforeGrant d)) s := rfl

/-! ## The choices of the arbiter (R170) -/

/-- The player of lowest number with a pending request (R170). -/
theorem chosenPlayer_eq_some {d : Device} {p : PlayerId} (hp : (d.player p).request = .pending)
    (hlow : ∀ q, q < p → (d.player q).request ≠ .pending) : chosenPlayer d = some p := by
  have hall : ∀ p : PlayerId, allPlayers = allPlayers.take p.val ++ p :: allPlayers.drop (p.val + 1) := by decide
  have hbelow : ∀ p : PlayerId, ∀ q ∈ allPlayers.take p.val, q < p := by decide
  refine List.find?_eq_some_iff_append.mpr ⟨by simp [hp], _, _, hall p, fun q hq => ?_⟩
  simpa using hlow q (hbelow p q hq)

theorem chosenPlayer_eq_none {d : Device} (h : ∀ p, (d.player p).request ≠ .pending) : chosenPlayer d = none := by
  simp [chosenPlayer, List.find?_eq_none, h]

theorem mem_pendingStreams {d : Device} {n : StreamId} : n ∈ pendingStreams d ↔ (d.stream n).request = .pending := by
  simp [pendingStreams, mem_allStreams]

/-- The cycle of the streams lists each at its place. -/
theorem cycleAfter_eq (turn : Option StreamId) (n : StreamId) : cycleAfter turn =
    (cycleAfter turn).take (placeInCycle turn n) ++ n :: (cycleAfter turn).drop (placeInCycle turn n + 1) := by
  cases turn with
  | none => revert n; decide
  | some k => revert k n; decide

/-- The streams listed before another stand at lower places. -/
theorem placeInCycle_lt {turn : Option StreamId} {n m : StreamId}
    (h : m ∈ (cycleAfter turn).take (placeInCycle turn n)) : placeInCycle turn m < placeInCycle turn n := by
  cases turn with
  | none => revert n m; decide
  | some k => revert k n m; decide

/-- The stream of the highest priority, and the next in turn among equals (R170). -/
theorem chosenStream_eq_some {d : Device} {n : StreamId} (hn : (d.stream n).request = .pending)
    (htop : ∀ m, (d.stream m).request = .pending → (d.stream m).prio ≤ (d.stream n).prio)
    (hturn : ∀ m, (d.stream m).request = .pending → (d.stream m).prio = (d.stream n).prio →
      placeInCycle (roundRobinAt d (d.stream n).prio) n ≤ placeInCycle (roundRobinAt d (d.stream n).prio) m) :
    chosenStream d = some n := by
  have hprio : topPriority d (pendingStreams d) = (d.stream n).prio := by
    obtain ⟨m, hm, hmtop⟩ := exists_prio_eq_topPriority (d := d) (List.ne_nil_of_mem (mem_pendingStreams.mpr hn))
    exact le_antisymm (hmtop ▸ htop m (mem_pendingStreams.mp hm)) (prio_le_topPriority (mem_pendingStreams.mpr hn))
  unfold chosenStream
  dsimp only
  rw [hprio]
  refine List.find?_eq_some_iff_append.mpr ⟨by simp [hn], _, _, cycleAfter_eq _ n, fun m hm => ?_⟩
  have hplace := placeInCycle_lt hm
  rw [Bool.not_eq_true', Bool.eq_false_iff]
  intro hpending
  obtain ⟨hpending, hequal⟩ := Bool.and_eq_true_iff.mp hpending
  exact absurd (hturn m (beq_iff_eq.mp hpending) (beq_iff_eq.mp hequal)) (not_le.mpr hplace)

theorem chosenStream_eq_none {d : Device} (h : ∀ n, (d.stream n).request ≠ .pending) : chosenStream d = none := by
  simp [chosenStream, List.find?_eq_none, h]

/-- With a request pending a stream's fetched records are those in its buffer (R116). -/
theorem fetchedCount_of_pending {x : Stream} (h : x.request = .pending) : fetchedCount x = x.buffer.length := by
  unfold fetchedCount; rw [h]; rfl

theorem controlFetched_of_pending {c : Control} (h : c.request = .pending) : controlFetched c = c.buffer.length := by
  unfold controlFetched; rw [h]; rfl

/-! ## The order of the issuers (R170) -/

section
variable {d : Device}

theorem grantRead_of_full (h : 8 ≤ d.reads.length) : grantRead d = d := if_pos h

theorem grantRead_of_boot (h : d.reads.length < 8) (hboot : d.ctl.boot = .pending) : grantRead d = grantBoot d := by
  unfold grantRead
  rw [if_neg (show ¬Config.readSlots ≤ _ from not_le.mpr h), if_pos hboot]

theorem grantRead_of_player {p : PlayerId} (h : d.reads.length < 8) (hboot : d.ctl.boot ≠ .pending)
    (hp : chosenPlayer d = some p) : grantRead d = grantPlayer p d := by
  unfold grantRead
  rw [if_neg (show ¬Config.readSlots ≤ _ from not_le.mpr h), if_neg hboot, hp]

theorem grantRead_of_control (h : d.reads.length < 8) (hboot : d.ctl.boot ≠ .pending) (hplayer : chosenPlayer d = none)
    (hcontrol : d.ctl.request = .pending) : grantRead d = grantControl d := by
  unfold grantRead
  rw [if_neg (show ¬Config.readSlots ≤ _ from not_le.mpr h), if_neg hboot, hplayer]
  exact if_pos hcontrol

theorem grantRead_of_streams (h : d.reads.length < 8) (hboot : d.ctl.boot ≠ .pending) (hplayer : chosenPlayer d = none)
    (hcontrol : d.ctl.request ≠ .pending) : grantRead d = match chosenStream d with
      | some n => grantStream n d
      | none => d := by
  unfold grantRead
  rw [if_neg (show ¬Config.readSlots ≤ _ from not_le.mpr h), if_neg hboot, hplayer]
  exact if_neg hcontrol

end

/-- Settles O46. -/
theorem readGrantServesInOrder : Obligations.ReadGrantServesInOrder := by
  intro s ⟨hreset, hcalm⟩ d read noPlayer
  have hexec : exec .readGrant s = .next { s with dev := grantRead d } := by
    rw [exec_readGrant, act_of_high hreset, settle_of_calm hcalm]
  refine ⟨fun hfull => ?_, fun hslot hboot haddr => ?_, fun hslot hboot haddr => ?_, ?_, ?_,
    fun hslot hboot hplayer hcontrol => ⟨?_, fun hnone => ?_⟩⟩
  · rw [hexec, grantRead_of_full hfull]
  · rw [hexec, grantRead_of_boot hslot hboot, grantBoot, if_pos haddr]
    rfl
  · rw [hexec, grantRead_of_boot hslot hboot, grantBoot, if_neg haddr]
    rfl
  · intro hslot hboot p hp hlow pl
    rw [grantRead_of_player hslot hboot (chosenPlayer_eq_some hp hlow)] at hexec
    exact ⟨_, hexec, rfl, rfl, fun q => Device.modPlayer_player d p q fun pl => { pl with request := .inFlight pl.asked }⟩
  · intro hslot hboot hplayer hcontrol c index k
    rw [hexec, grantRead_of_control hslot hboot (chosenPlayer_eq_none hplayer) hcontrol, grantControl,
      controlFetched_of_pending hcontrol]
    rfl
  · intro n hn htop hturn y index k
    rw [grantRead_of_streams hslot hboot (chosenPlayer_eq_none hplayer) hcontrol, chosenStream_eq_some hn htop hturn] at hexec
    have hcount : ringReadCount y.buffer.length (ringSpan y.tail y.head y.size - fetchedCount y) y.size (fetchIndex y) = k := by
      rw [fetchIndex, fetchedCount_of_pending hn]; rfl
    have hindex : fetchIndex y = index := by rw [fetchIndex, fetchedCount_of_pending hn]
    have hgrant : grantStream n d = issueRead (.stream n) (y.base + BitVec.ofNat 64 (32 * index)) (32 * k) d.ctl.timeout
        { d.modStream n (fun x => { x with request := .inFlight k }) with
          roundRobin := d.roundRobin.set (Fin.ofNat 8 y.prio).val (some n) (Fin.ofNat 8 y.prio).isLt } := by
      rw [← hcount, ← hindex]; rfl
    dsimp only at hexec
    rw [hgrant] at hexec
    refine ⟨_, hexec, rfl, rfl, fun m => Device.modStream_stream d n m fun x => { x with request := .inFlight k }, fun j => ?_⟩
    change (d.roundRobin.set (Fin.ofNat 8 y.prio).val (some n) (Fin.ofNat 8 y.prio).isLt).get j = _
    rw [Vector.get_eq_getElem, Vector.get_eq_getElem, Vector.getElem_set]
    refine if_congr ?_ rfl rfl
    rw [Fin.ext_iff, eq_comm]
  · rw [hexec, grantRead_of_streams hslot hboot (chosenPlayer_eq_none hplayer) hcontrol, chosenStream_eq_none hnone]

end Sys2Proof.Machine
end

section
/-! SUPPORT. The writer and the responses to its writes (8.3 to 8.7, 10.4). -/

namespace Sys2Proof.Machine

theorem exec_completionWriteIssue (s : State) :
    exec .completionWriteIssue s = act (fun d => serveWriter (settle false beforeWrite d)) s := rfl
theorem exec_writeSuccess (i : Nat) (s : State) :
    exec (.writeSuccess i) s = event (answerWrite i .completion true) s := rfl
theorem exec_writeBusError (i : Nat) (s : State) :
    exec (.writeBusError i) s = event (answerWrite i .completion false) s := rfl

/-! ## The writer (R143) -/

theorem queueOpen_iff {d : Device} {q : CqId} : queueOpen d q = true ↔
    (d.queue q).state = .active ∧ ((d.queue q).tail + 1) % (d.queue q).size ≠ (d.queue q).head := by
  simp [queueOpen]

/-- Without an eligible record the writer does nothing (R143). -/
theorem serveHolding_of_none {d : Device} (held : List Held) (h : ∀ x ∈ held, queueOpen d x.queue = false)
    (front : List Held) : serveHolding front d held = d := by
  induction held generalizing front with
  | nil => rfl
  | cons x held ih =>
    rw [serveHolding, h x (List.mem_cons_self ..), if_neg Bool.false_ne_true]
    exact ih (fun y hy => h y (List.mem_cons_of_mem _ hy)) _

/-- The records that are not eligible are passed by (R143). -/
theorem serveHolding_append {d : Device} (passed held : List Held) (h : ∀ x ∈ passed, queueOpen d x.queue = false)
    (front : List Held) : serveHolding front d (passed ++ held) = serveHolding (front ++ passed) d held := by
  induction passed generalizing front with
  | nil => rw [List.nil_append, List.append_nil]
  | cons x passed ih =>
    rw [List.cons_append, serveHolding, h x (List.mem_cons_self ..), if_neg Bool.false_ne_true,
      ih (fun y hy => h y (List.mem_cons_of_mem _ hy)), List.append_assoc, List.singleton_append]

theorem serveWriter_of_outstanding {d : Device} (h : d.outstanding ≠ none) : serveWriter d = d :=
  if_pos (Option.isSome_iff_ne_none.mpr h)

theorem serveWriter_of_free {d : Device} (h : d.outstanding = none) :
    serveWriter d = serveHolding [] d d.holding := by rw [serveWriter, h]; rfl

/-- The writer reaches the oldest eligible record (R143). -/
theorem serveWriter_of_eligible {d : Device} {front rest : List Held} {h : Held} (hfree : d.outstanding = none)
    (hholding : d.holding = front ++ h :: rest) (hfront : ∀ f ∈ front, queueOpen d f.queue = false) :
    serveWriter d = serveHolding front d (h :: rest) := by
  rw [serveWriter_of_free hfree, hholding, serveHolding_append front _ hfront, List.nil_append]

/-- The record is written (R143). -/
theorem serveHolding_of_record {d : Device} {front rest : List Held} {h : Held} (hopen : queueOpen d h.queue = true)
    (hoverflow : h.overflow = none) : serveHolding front d (h :: rest) =
      issueCompletion h.queue h.completion none { d with holding := front ++ rest } := by
  rw [serveHolding, if_pos hopen, hoverflow]

/-- The OVERFLOW that stands before the record is written (R145). -/
theorem serveHolding_of_overflow {d : Device} {front rest : List Held} {h : Held} {p : W32 × Time}
    (hopen : queueOpen d h.queue = true) (hoverflow : h.overflow = some p) : serveHolding front d (h :: rest) =
      issueCompletion h.queue (overflowCompletion p) (some p.1)
        { d with holding := front ++ { h with overflow := none } :: rest } := by
  rw [serveHolding, if_pos hopen, hoverflow]

/-! ## Responses (R140, R146, R171) -/

theorem answerWrite_of_none {d : Device} {i : Nat} (h : findWrite d i = none) (kind : Writer) (success : Bool) :
    answerWrite i kind success d = d := by rw [answerWrite, h]

theorem answerWrite_of_some {d : Device} {i : Nat} {w : Write} (h : findWrite d i = some w) (success : Bool) :
    answerWrite i w.writer success d = endWrite w success d := by
  rw [answerWrite, h]
  exact if_pos rfl

theorem timeOutWrite_of_none {d : Device} {i : Nat} (h : findWrite d i = none) : timeOutWrite i d = d := by
  rw [timeOutWrite, h]

theorem timeOutWrite_of_some {d : Device} {i : Nat} {w : Write} (h : findWrite d i = some w) :
    timeOutWrite i d = endWrite w false d := by rw [timeOutWrite, h]

theorem endWrite_of_orphaned {w : Write} (h : w.orphaned = true) (success : Bool) (d : Device) :
    endWrite w success d = dropWrite w.identity d := if_pos h

theorem endWrite_of_completion {w : Write} {o : Outstanding} {d : Device} (horphaned : w.orphaned = false)
    (hwriter : w.writer = .completion) (ho : d.outstanding = some o) (success : Bool) :
    endWrite w success d =
      if success then writeSucceeded o.queue (dropWrite w.identity d) else faultQueue o (dropWrite w.identity d) := by
  have ho' : (dropWrite w.identity d).outstanding = some o := ho
  unfold endWrite
  dsimp only
  rw [horphaned, hwriter, if_neg Bool.false_ne_true]
  dsimp only
  rw [ho']

/-! ## Coalescing (R147) -/

theorem Device.modQueue_modQueue (d : Device) (q : CqId) (f g : Queue → Queue) :
    (d.modQueue q f).modQueue q g = d.modQueue q (fun c => g (f c)) := by
  simp [Device.modQueue, Device.queue, Vector.get_eq_getElem]

/-- A queue with one more record written to it (R140, R147). -/
def Queue.written (c : Queue) : Queue :=
  { c with tail := (c.tail + 1) % c.size, unsignalled := min 255 (c.unsignalled + 1),
           phase := if (c.tail + 1) % c.size = 0 then !c.phase else c.phase }

/-- The part with one more record written to a queue, before it is counted (R140). -/
def wrote (q : CqId) (d : Device) : Device := { d with outstanding := none }.modQueue q Queue.written

theorem wrote_queue (q k : CqId) (d : Device) :
    (wrote q d).queue k = if k = q then (d.queue q).written else d.queue k := Device.modQueue_queue ..

/-- The three outcomes of a completion write that succeeds (R140, R147). -/
theorem writeSucceeded_eq (q : CqId) (d : Device) : writeSucceeded q d =
    if attnSet d q then wrote q d
    else if (d.queue q).countThreshold ≤ min 255 ((d.queue q).unsignalled + 1) then raiseAttention q (wrote q d)
    else if (d.queue q).unsignalled = 0 ∧ (d.queue q).timeThreshold ≠ 0 then
      (wrote q d).modQueue q (fun c => { c with timer := some 0 })
    else wrote q d := by
  have hfirst (f : Queue → Queue) : (({ d with outstanding := none } : Device).modQueue q f).queue q = f (d.queue q) :=
    Device.modQueue_queue_self _ q f
  unfold writeSucceeded coalesce
  dsimp only
  rw [hfirst, Device.modQueue_modQueue]
  rfl

/-- Settles O49. -/
theorem writerWritesOldestEligible : Obligations.WriterWritesOldestEligible := by
  intro s d open' write
  have hexec (h : SettledFor beforeWrite s) : exec .completionWriteIssue s = .next { s with dev := serveWriter d } := by
    rw [exec_completionWriteIssue, act_of_high h.1, settle_of_calm h.2]
  have hclosed {x : Held} (h : ¬open' x) : queueOpen d x.queue = false :=
    Bool.eq_false_iff.mpr fun hx => h (queueOpen_iff.mp hx)
  refine ⟨fun hs hnone => ?_, fun front h rest hs hfree hholding hfront hopen => ?_,
    fun i w o hs hw hwriter horphaned ho => ?_⟩
  · rw [hexec hs]
    rcases hnone with hout | hnone
    · rw [serveWriter_of_outstanding hout]
    · by_cases hfree : d.outstanding = none
      · rw [serveWriter_of_free hfree, serveHolding_of_none _ fun x hx => hclosed (hnone x hx)]
      · rw [serveWriter_of_outstanding hfree]
  · have hserve := serveWriter_of_eligible hfree hholding fun f hf => hclosed (hfront f hf)
    refine ⟨fun hrecord => ?_, fun count time hoverflow => ?_⟩
    · rw [hexec hs, hserve, serveHolding_of_record (queueOpen_iff.mpr hopen) hrecord]
      rfl
    · rw [hexec hs, hserve, serveHolding_of_overflow (queueOpen_iff.mpr hopen) hoverflow]
      rfl
  · intro q c u y after
    have hend : exec (.writeSuccess i) s = .next { s with dev := writeSucceeded q (dropWrite i d) } := by
      rw [exec_writeSuccess, event_of_calm hs.1 hs.2, ← hwriter, answerWrite_of_some hw,
        endWrite_of_completion horphaned hwriter ho, findWrite_identity hw, if_pos rfl]
    have hqueue (k : CqId) : (dropWrite i d).queue k = d.queue k := rfl
    have hattn : attnSet (dropWrite i d) q = attnSet d q := rfl
    rw [writeSucceeded_eq, hattn, hqueue] at hend
    have hwritten (k : CqId) : (wrote q (dropWrite i d)).queue k = if k = q then y else d.queue k := wrote_queue ..
    refine ⟨fun hset => ?_, fun hset hfull => ?_, fun hset hless => ?_⟩
    · rw [if_pos hset] at hend
      exact ⟨_, hend, rfl, rfl, hwritten⟩
    · rw [hset, if_neg Bool.false_ne_true, if_pos hfull] at hend
      refine ⟨_, hend, rfl, rfl, fun k => ?_⟩
      rw [(raiseAttention_does q _).2 k, hwritten, hwritten, if_pos rfl]
      split <;> rfl
    · rw [hset, if_neg Bool.false_ne_true, if_neg (not_le.mpr hless)] at hend
      by_cases htimer : c.unsignalled = 0 ∧ c.timeThreshold ≠ 0
      · rw [if_pos htimer] at hend ⊢
        refine ⟨_, hend, rfl, rfl, fun k => ?_⟩
        rw [Device.modQueue_queue, hwritten, hwritten, if_pos rfl]
        split <;> rfl
      · rw [if_neg htimer] at hend ⊢
        exact ⟨_, hend, rfl, rfl, hwritten⟩

/-! ## Faults (R146) -/

/-- The losses of the write that failed (R146). -/
def ownLoss (o : Outstanding) : Nat :=
  match o.overflow with
  | some n => n.toNat
  | none => 1

theorem addLost_queue (q k : CqId) (n : Nat) (d : Device) : (addLost q n d).queue k =
    if k = q then { d.queue q with lost := min 0xFFFFFFFF ((d.queue q).lost + n) } else d.queue k :=
  Device.modQueue_queue ..

/-- The part as a fault finds it: the losses counted, the records of the queue discarded (R146). -/
def discarded (o : Outstanding) (d : Device) : Device :=
  { addLost o.queue (ownLoss o + faultLoss o.queue d.holding) { d with outstanding := none } with
    holding := d.holding.filter (fun h => h.queue != o.queue) }

theorem discarded_queue (o : Outstanding) (d : Device) (k : CqId) : (discarded o d).queue k = if k = o.queue
    then { d.queue o.queue with
      lost := min 0xFFFFFFFF ((d.queue o.queue).lost + (ownLoss o + faultLoss o.queue d.holding)) }
    else d.queue k := addLost_queue ..

/-- A queue that goes into FAULTED, its bit of EVENT with it (R146). -/
def enterFaulted (q : CqId) (d : Device) : Device :=
  setEvent (faultBit q) (d.modQueue q (fun c => { c with state := .faulted, timer := none }))

theorem enterFaulted_queue (q k : CqId) (d : Device) : (enterFaulted q d).queue k =
    if k = q then { d.queue q with state := .faulted, timer := none } else d.queue k :=
  Device.modQueue_queue d q k fun c => { c with state := .faulted, timer := none }

theorem enterFaulted_frame (q : CqId) (d : Device) : enterFaulted q d = { d with
    queues := (enterFaulted q d).queues, host := { d.host with event := d.host.event ||| faultBit q } } := rfl

theorem faultQueue_eq (o : Outstanding) (d : Device) :
    faultQueue o d = enterFaulted o.queue (signalRemaining o.queue (discarded o d)) := rfl

theorem raiseAttention_frame (q : CqId) (d : Device) : raiseAttention q d = { d with
    queues := (raiseAttention q d).queues, host := { d.host with event := d.host.event ||| attnBit q } } := rfl

/-- Attention for what remains unsignalled, with what it makes of EVENT and the queue (R146). -/
theorem signalRemaining_eq (q : CqId) (d : Device) :
    signalRemaining q d = { d with
      queues := (signalRemaining q d).queues,
      host := { d.host with event := d.host.event ||| if 0 < (d.queue q).unsignalled then attnBit q else 0 } } ∧
    ∀ k, k = q → { (signalRemaining q d).queue k with timer := none } =
      { d.queue k with unsignalled := 0, timer := none } := by
  unfold signalRemaining
  by_cases h : 0 < (d.queue q).unsignalled
  · rw [if_pos h, if_pos h]
    refine ⟨raiseAttention_frame q d, fun k hk => ?_⟩
    rw [(raiseAttention_does q d).2, if_pos hk, hk]
  · have hor : d.host.event ||| (0 : W32) = d.host.event := BitVec.or_zero
    have hzero : (d.queue q).unsignalled = 0 := Nat.eq_zero_of_not_pos h
    rw [if_neg h, if_neg h, hor]
    refine ⟨rfl, fun k hk => ?_⟩
    rw [hk, ← hzero]

/-- What a failed completion write leaves (R146). -/
theorem faultQueue_does (o : Outstanding) (d : Device) :
    let q := o.queue
    let c := d.queue q
    let d' := faultQueue o d
    d' = { d with
      outstanding := none, holding := d.holding.filter (fun h => h.queue != q), queues := d'.queues,
      host := { d.host with event := (d.host.event ||| if 0 < c.unsignalled then attnBit q else 0) ||| faultBit q } } ∧
    ∀ k, d'.queue k = if k = q
      then { c with state := .faulted, lost := min 0xFFFFFFFF (c.lost + (ownLoss o + faultLoss q d.holding)),
                    unsignalled := 0, timer := none }
      else d.queue k := by
  intro q c d'
  obtain ⟨hsignal, hqueue⟩ := signalRemaining_eq q (discarded o d)
  have hother := (signalRemaining_does q (discarded o d)).2.2.2
  have hself : (discarded o d).queue q = _ := (discarded_queue o d q).trans (if_pos rfl)
  have hframe := enterFaulted_frame q (signalRemaining q (discarded o d))
  have hlast (k : CqId) := enterFaulted_queue q k (signalRemaining q (discarded o d))
  rw [← faultQueue_eq] at hframe hlast
  generalize signalRemaining q (discarded o d) = y at *
  refine ⟨?_, fun k => ?_⟩
  · refine hframe.trans ?_
    rw [hself] at hsignal
    rw [hsignal]
    rfl
  · refine (hlast k).trans ?_
    split
    · have h := congrArg (fun c : Queue => { c with state := .faulted }) (hqueue q rfl)
      dsimp only at h
      rw [h, hself]
    · next hk => rw [hother k hk, discarded_queue, if_neg hk]

/-- Settles O50. -/
theorem writeErrorFaultsQueue : Obligations.WriteErrorFaultsQueue := by
  intro s i ⟨hreset, hcalm⟩ d rest
  have hevent (f : Device → Device) : event f s = .next { s with dev := f d } := event_of_calm hreset hcalm
  refine ⟨fun hnone => ?_, fun w hw horphaned => ?_, fun w o hw hwriter horphaned ho e he => ?_⟩
  · rw [exec_writeSuccess, exec_writeBusError, exec_writeTimeout, hevent, hevent, hevent, answerWrite_of_none hnone,
      answerWrite_of_none hnone, timeOutWrite_of_none hnone]
    exact ⟨rfl, rfl, rfl⟩
  · have hend (success : Bool) : endWrite w success d = { d with writes := rest } := by
      rw [endWrite_of_orphaned horphaned, findWrite_identity hw]
      rfl
    refine ⟨?_, fun hwriter => ⟨?_, ?_⟩⟩
    · rw [exec_writeTimeout, hevent, timeOutWrite_of_some hw, hend]
    · rw [exec_writeSuccess, hevent, ← hwriter, answerWrite_of_some hw, hend]
    · rw [exec_writeBusError, hevent, ← hwriter, answerWrite_of_some hw, hend]
  · intro q c own losses
    have hend : exec e s = .next { s with dev := faultQueue o (dropWrite i d) } := by
      have hfault : endWrite w false d = faultQueue o (dropWrite i d) := by
        rw [endWrite_of_completion horphaned hwriter ho, findWrite_identity hw, if_neg Bool.false_ne_true]
      simp only [List.mem_cons, List.not_mem_nil, or_false] at he
      rcases he with rfl | rfl
      · rw [exec_writeBusError, hevent, ← hwriter, answerWrite_of_some hw, hfault]
      · rw [exec_writeTimeout, hevent, timeOutWrite_of_some hw, hfault]
    obtain ⟨hframe, hqueue⟩ := faultQueue_does o (dropWrite i d)
    exact ⟨_, hend, rfl, hframe, hqueue⟩

end Sys2Proof.Machine
end

section
/-! SUPPORT. The ends of reads, and those of the rings (7.4, 7.5, 9.5, 10.3). -/

namespace Sys2Proof.Machine

/-- The cause that a completion gives for the end of a read (12.9). -/
def readCause : ReadEnd → Nat
  | .data _ => 0
  | .busError => 1
  | .timedOut => 2

/-- The commands that end a read, each with its cause. -/
def readEnds (i : Nat) (data : List Byte) : List (Instr × Nat) :=
  [(.readDataReturn i data, 0), (.readBusError i, 1), (.readTimeout i, 2)]

/-- A command that ends a read hands its end to `endRead` (R169). -/
theorem exec_readEnds {i : Nat} {data : List Byte} {c : Instr × Nat} (hc : c ∈ readEnds i data) (s : State) :
    ∃ r, (r = .data data ∨ r = .busError ∨ r = .timedOut) ∧ c.2 = readCause r ∧ exec c.1 s = event (endRead i r) s := by
  simp only [readEnds, List.mem_cons, List.not_mem_nil, or_false] at hc
  rcases hc with rfl | rfl | rfl
  · exact ⟨.data data, .inl rfl, rfl, rfl⟩
  · exact ⟨.busError, .inr (.inl rfl), rfl, rfl⟩
  · exact ⟨.timedOut, .inr (.inr rfl), rfl, rfl⟩

/-- The part with the slot of a read freed (R169). -/
def freeSlot (i : Nat) (d : Device) : Device := { d with reads := d.reads.filter (fun y => y.identity != i) }

/-- An end that fits its read frees the slot, and goes to the issuer unless the read is orphaned (R156, R169). -/
theorem endRead_of_fits {i : Nat} {x : Read} {r : ReadEnd} {d : Device} (hx : findRead d i = some x)
    (hfits : endFits x r = true) :
    endRead i r d = if x.orphaned then freeSlot i d else handRead x.issuer r (freeSlot i d) := by
  unfold endRead
  rw [hx]
  dsimp only
  rw [hfits]
  rfl

/-- The end of a read by one of the commands, with data of the length asked. -/
theorem exec_readEnds_fitting {i : Nat} {x : Read} {data : List Byte} {c : Instr × Nat} {s : State} (hsettled : Settled s)
    (hx : findRead s.dev i = some x) (hlength : data.length = x.length) (hc : c ∈ readEnds i data) :
    ∃ r, (r = .data data ∨ r = .busError ∨ r = .timedOut) ∧ c.2 = readCause r ∧ exec c.1 s = .next { s with
      dev := if x.orphaned then freeSlot i s.dev else handRead x.issuer r (freeSlot i s.dev) } := by
  obtain ⟨r, hr, hcause, hexec⟩ := exec_readEnds hc s
  have hfits : endFits x r = true := by
    rcases hr with rfl | rfl | rfl
    · exact beq_iff_eq.mpr hlength
    · rfl
    · rfl
  exact ⟨r, hr, hcause, by rw [hexec, event_of_calm hsettled.1 hsettled.2, endRead_of_fits hx hfits]⟩

/-! ## The read of a stream's ring (R123, R124, R129, R133) -/

theorem fetchTest_modStream (n : StreamId) (f : Stream → Stream) (d : Device) :
    fetchTest n (d.modStream n f) = d.modStream n fun x => (f x).refetched d.threshold := by
  rw [fetchTest_eq_modStream, Device.modStream_modStream]
  rfl

theorem streamReadEnd_of_discard {n : StreamId} {d : Device} (h : (d.stream n).discard = true) (r : ReadEnd) :
    streamReadEnd n r d =
      d.modStream n fun x => ({ x with request := .idle, discard := false } : Stream).refetched d.threshold := by
  rw [streamReadEnd, if_pos h]
  exact fetchTest_modStream ..

theorem streamReadEnd_of_over {n : StreamId} {d : Device} (hdiscard : (d.stream n).discard = false)
    (h : (d.stream n).state = .idle ∨ (d.stream n).state = .halted ∨ (d.stream n).state = .stopping) (r : ReadEnd) :
    streamReadEnd n r d = d.modStream n fun x => { x with request := .idle } := by
  unfold streamReadEnd
  rcases h with h | h | h <;> simp only [h, hdiscard, Bool.false_eq_true, if_false]

theorem streamReadEnd_of_active {n : StreamId} {d : Device} {k : Nat} (hdiscard : (d.stream n).discard = false)
    (h : (d.stream n).state = .running ∨ (d.stream n).state = .waiting) (hrequest : (d.stream n).request = .inFlight k) :
    (∀ data, streamReadEnd n (.data data) d = d.modStream n fun x =>
      ({ x with buffer := x.buffer ++ recordsOf data k, request := .idle } : Stream).refetched d.threshold) ∧
    streamReadEnd n .busError d = failFetch n 1 d ∧ streamReadEnd n .timedOut d = failFetch n 2 d := by
  unfold streamReadEnd
  rcases h with h | h <;> simp only [h, hdiscard, hrequest, Bool.false_eq_true, if_false, fetchTest_modStream] <;>
    exact ⟨fun _ => trivial, trivial, trivial⟩

/-- A fetch error halts the stream with the first index of its read (R129). -/
theorem failFetch_halts (n : StreamId) (cause : Nat) (d : Device) :
    HaltedWith n (plainCompletion (.stream n) 0 .fetchError 0 d.tb.now 0 (d.stream n).head
        (BitVec.ofNat 32 (((d.stream n).head + (d.stream n).buffer.length) % (d.stream n).size)) (BitVec.ofNat 32 cause))
      (d.modStream n (fun z => { z with request := .idle })) (failFetch n cause d) := by
  have hhead : ((d.modStream n fun z => { z with request := .idle }).stream n).head = (d.stream n).head := by
    rw [Device.modStream_stream_self]
  have hhalted := haltedWith_postStream n 0 .fetchError
    (BitVec.ofNat 32 (((d.stream n).head + (d.stream n).buffer.length) % (d.stream n).size)) (BitVec.ofNat 32 cause)
    (d.modStream n (fun z => { z with request := .idle }))
  rw [hhead] at hhalted
  exact hhalted

/-! ## The read of the control ring (R159) -/

theorem controlReadEnd_of_off {d : Device} (h : d.ctl.mode ≠ .on) (r : ReadEnd) :
    controlReadEnd r d = { d with ctl := { d.ctl with request := .idle } } := by
  unfold controlReadEnd
  cases hmode : d.ctl.mode
  case on => exact absurd hmode h
  all_goals rfl

/-- The places of a read of the control ring are taken into the buffer, and the fetch test is made (R159, log 38). -/
theorem controlReadEnd_of_on {d : Device} {k : Nat} (hmode : d.ctl.mode = .on) (hrequest : d.ctl.request = .inFlight k)
    (r : ReadEnd) : controlReadEnd r d = { d with ctl :=
      ({ d.ctl with buffer := d.ctl.buffer ++ controlEntries k r, request := .idle } : Control).refetched } := by
  unfold controlReadEnd
  rw [hmode, hrequest]
  exact controlFetchTest_eq _

theorem Control.refetched_of_idle {c : Control} (hmode : c.mode = .on) (hrequest : c.request = .idle) :
    c.refetched = if c.buffer.length < 4 ∧ c.buffer.length < ringSpan c.tail c.head c.size
      then { c with request := .pending } else c := by
  have hfetched : controlFetched c = c.buffer.length := by simp [controlFetched, hrequest]
  rw [Control.refetched, hfetched]
  exact if_congr (by simp [hmode, hrequest]) rfl rfl

/-- Settles O47. -/
theorem ringReadsEnd : Obligations.RingReadsEnd := by
  intro s i x data hsettled hx hlength d ends refetched
  have hexec {c : Instr × Nat} (hc : c ∈ ends) := exec_readEnds_fitting hsettled hx hlength hc
  have hhanded {c : Instr × Nat} (hc : c ∈ ends) (horphaned : x.orphaned = false) :
      ∃ r, (r = .data data ∨ r = .busError ∨ r = .timedOut) ∧ c.2 = readCause r ∧
        exec c.1 s = .next { s with dev := handRead x.issuer r d } := by
    obtain ⟨r, hr, hcause, hexec⟩ := hexec hc
    rw [horphaned] at hexec
    exact ⟨r, hr, hcause, hexec⟩
  refine ⟨fun horphaned c hc => ?_, fun n horphaned hissuer => ?_, fun horphaned hissuer => ?_⟩
  · obtain ⟨r, _, _, hexec⟩ := hexec hc
    rw [hexec, horphaned]
    rfl
  · intro y only
    have hstream {c : Instr × Nat} {f : Stream → Stream} (hc : c ∈ ends)
        (hend : ∀ r, c.2 = readCause r → (r = .data data ∨ r = .busError ∨ r = .timedOut) →
          streamReadEnd n r d = d.modStream n f) : only c.1 (f y) := by
      obtain ⟨r, hr, hcause, hexec⟩ := hhanded hc horphaned
      rw [hissuer, handRead, hend r hcause hr] at hexec
      exact ⟨_, hexec, rfl, rfl, fun m => Device.modStream_stream d n m f⟩
    refine ⟨fun hdiscard c hc => ?_, fun hdiscard hstate c hc => ?_,
      fun k hdiscard hstate hrequest => ⟨?_, fun c hc hc2 => ?_⟩⟩
    · exact hstream hc fun r _ _ => streamReadEnd_of_discard hdiscard r
    · exact hstream hc fun r _ _ => streamReadEnd_of_over hdiscard hstate r
    · obtain ⟨hdata, -, -⟩ := streamReadEnd_of_active hdiscard hstate hrequest
      refine hstream (c := (.readDataReturn i data, 0))
        (f := fun x => refetched { x with buffer := x.buffer ++ recordsOf data k, request := .idle })
        (List.mem_cons_self ..) fun r hcause hr => ?_
      rcases hr with rfl | rfl | rfl
      · exact hdata data
      · cases hcause
      · cases hcause
    · obtain ⟨-, hbus, htime⟩ := streamReadEnd_of_active hdiscard hstate hrequest
      obtain ⟨r, hr, hcause, hexec⟩ := hhanded hc horphaned
      rw [hcause] at hc2 ⊢
      rw [hissuer, handRead] at hexec
      rcases hr with rfl | rfl | rfl
      · exact absurd rfl hc2
      · rw [hbus] at hexec
        exact ⟨_, hexec, rfl, failFetch_halts n 1 d⟩
      · rw [htime] at hexec
        exact ⟨_, hexec, rfl, failFetch_halts n 2 d⟩
  · intro c
    refine ⟨fun hmode e he => ?_, fun k hmode hrequest e he => ?_⟩
    · obtain ⟨r, _, _, hexec⟩ := hhanded he horphaned
      rw [hexec, hissuer, handRead, controlReadEnd_of_off hmode]
    · intro z refetched
      obtain ⟨r, hr, hcause, hexec⟩ := hhanded he horphaned
      have hentries : controlEntries k r =
          if e.2 = 0 then (recordsOf data k).map .record else List.replicate k (.failedPlace e.2) := by
        rw [hcause]
        rcases hr with rfl | rfl | rfl <;> rfl
      rw [hexec, hissuer, handRead, controlReadEnd_of_on hmode hrequest, Control.refetched_of_idle (c := {
        d.ctl with buffer := d.ctl.buffer ++ controlEntries k r, request := .idle }) hmode rfl, hentries]

end Sys2Proof.Machine
end

section
/-! SUPPORT. The ends of the bootstrap read and of a player's read (6.3, 6.5, 9.2, 10.3). -/

namespace Sys2Proof.Machine

theorem exec_readDataReturn (i : Nat) (data : List Byte) (s : State) :
    exec (.readDataReturn i data) s = event (endRead i (.data data)) s := rfl

theorem endRead_of_none {i : Nat} {d : Device} (h : findRead d i = none) (r : ReadEnd) : endRead i r d = d := by
  rw [endRead, h]

theorem endRead_of_misfit {i : Nat} {x : Read} {d : Device} {data : List Byte} (hx : findRead d i = some x)
    (hlength : data.length ≠ x.length) : endRead i (.data data) d = d := by
  have hfits : endFits x (.data data) = false := beq_eq_false_iff_ne.mpr hlength
  rw [endRead, hx]
  dsimp only
  rw [hfits]
  rfl

/-! ## The bootstrap read (R152, R153) -/

/-- The control ring sizes are the powers of two from 16 to 256. -/
theorem controlSizeOk_iff (n : Nat) : controlSizeOk n = true ↔ ∃ j ≤ 8, 4 ≤ j ∧ n = 2 ^ j := by
  simp only [controlSizeOk, List.contains_iff_mem, List.mem_cons, List.not_mem_nil, or_false]
  refine ⟨fun h => ?_, fun ⟨j, hmost, hleast, hn⟩ => ?_⟩
  · rcases h with h | h | h | h | h
    · exact ⟨4, by decide, by decide, h⟩
    · exact ⟨5, by decide, by decide, h⟩
    · exact ⟨6, by decide, by decide, h⟩
    · exact ⟨7, by decide, by decide, h⟩
    · exact ⟨8, by decide, by decide, h⟩
  · subst hn
    interval_cases j <;> decide

theorem controlRingInRange_iff (base size : Nat) :
    RingInRange base size 8 ↔ ringBaseOk base size = true ∧ controlSizeOk size = true := by
  rw [controlSizeOk_iff, ringBaseOk_iff]
  exact (and_assoc).symm

/-- The checks of the table in 9.2 (R153, R174). -/
theorem bootBlockOk_iff (data : List Byte) : bootBlockOk data = true ↔ BootBlockValid data := by
  have hidentifier : Config.bootIdentifier = 0x5A423208 := rfl
  unfold bootBlockOk BootBlockValid
  dsimp only
  rw [controlRingInRange_iff, ringInRange_iff, and_comm (a := ringSizeOk _ = true)]
  simp only [hidentifier, Bool.and_eq_true, beq_iff_eq, decide_eq_true_eq, and_assoc]
  rfl

theorem bootReadEnd_of_off {d : Device} (h : d.ctl.mode ≠ .loading) (r : ReadEnd) :
    bootReadEnd r d = { d with ctl := { d.ctl with boot := .idle } } := if_pos h

theorem bootReadEnd_of_loading {d : Device} (h : d.ctl.mode = .loading) :
    (∀ data, bootReadEnd (.data data) d = if bootBlockOk data then enterOn (bootBlockOf data) d else failBoot d) ∧
    bootReadEnd .busError d = failBoot d ∧ bootReadEnd .timedOut d = failBoot d :=
  ⟨fun _ => if_neg (not_not.mpr h), if_neg (not_not.mpr h), if_neg (not_not.mpr h)⟩

theorem failBoot_eq (d : Device) : failBoot d =
    { d with ctl := { d.ctl with mode := .failed, boot := .idle },
             host := { d.host with event := d.host.event ||| 0x200#32 } } := rfl

/-- Entry into ON sets up the control ring and queue 0 (R139, R153). -/
theorem enterOn_does (b : BootBlock) (d : Device) :
    let d' := enterOn b d
    d' = { d with
      ctl := { mode := .on, base := BitVec.ofNat 64 b.base, size := b.size, head := 0, tail := 0, buffer := [],
               request := .idle, query := none, timeout := b.timeout, boot := .idle },
      host := { d.host with event := d.host.event ||| 0x100#32 }, queues := d'.queues } ∧
    ∀ q, d'.queue q = if q = 0 then
      { state := .active, base := BitVec.ofNat 64 b.cqBase, size := b.cqSize, tail := 0, head := 0, phase := true,
        lost := 0, countThreshold := b.countThreshold, timeThreshold := b.timeThreshold, unsignalled := 0, timer := none }
      else d.queue q := by
  refine ⟨rfl, fun q => ?_⟩
  have hqueue (m : W32) (v : Device) : (setEvent m v).queue q = v.queue q := rfl
  rw [enterOn, hqueue, Device.modQueue_queue]
  rfl

/-! ## The steps that a read brings (R105) -/

/-- The step of index `j` among those that a read brings. -/
def rawAt (data : List Byte) (j : Nat) : RawStep := rawStepOf ((data.drop (8 * j)).take 8)

theorem stepsOf_eq (data : List Byte) (k : Nat) : stepsOf data k = (List.range k).map (rawAt data) := by
  induction k generalizing data with
  | zero => rfl
  | succ k ih =>
    have hnext (j : Nat) : rawAt (data.drop 8) j = rawAt data (j + 1) := by
      rw [rawAt, rawAt, List.drop_drop, show 8 + 8 * j = 8 * (j + 1) by omega]
    rw [stepsOf, ih, List.range_succ_eq_map, List.map_cons, List.map_map]
    exact congrArg _ (List.map_congr_left fun j _ => hnext j)

/-- A field of a step lies in the bytes of the read. -/
theorem bytesAt_step (data : List Byte) (j : Nat) {o n : Nat} (h : o + n ≤ 8) :
    bytesAt ((data.drop (8 * j)).take 8) o n = bytesAt data (8 * j + o) n := by
  rw [bytesAt, bytesAt, List.drop_take, List.take_take, List.drop_drop, min_eq_left (by omega)]

theorem rawAt_eq (data : List Byte) (j : Nat) : rawAt data j =
    { hold := bytesAt data (8 * j) 3, levels := BitVec.ofNat 8 (bytesAt data (8 * j + 3) 1),
      last := bytesAt data (8 * j + 4) 1 % 2 == 1,
      ok := bytesAt data (8 * j) 3 != 0 && decide (bytesAt data (8 * j + 4) 1 < 2) && bytesAt data (8 * j + 5) 3 == 0 } := by
  rw [rawAt, rawStepOf, bytesAt_step data j (by decide), bytesAt_step data j (by decide), bytesAt_step data j (by decide),
    bytesAt_step data j (by decide)]
  rfl

/-- The steps of a read pass their checks (R105). -/
theorem stepsOk_iff (data : List Byte) (k : Nat) : (stepsOf data k).all (·.ok) = true ↔
    ∀ j < k, bytesAt data (8 * j) 3 ≠ 0 ∧ bytesAt data (8 * j + 4) 1 < 2 ∧ bytesAt data (8 * j + 5) 3 = 0 := by
  simp only [stepsOf_eq, List.all_map, List.all_eq_true, List.mem_range, Function.comp_apply, rawAt_eq, Bool.and_eq_true,
    bne_iff_ne, beq_iff_eq, decide_eq_true_eq, and_assoc]

/-- The step of index `j` among those read ends the pass of a player (R105). -/
def endsPassAt (pl : Player) (data : List Byte) (j : Nat) : Prop :=
  bytesAt data (8 * j + 4) 1 % 2 = 1 ∨ pl.cursor + j = pl.steps - 1 ∧ 0 < pl.steps

/-- A step as a player holds it. -/
def stepAt (data : List Byte) (mark : Bool) (j : Nat) : Step :=
  ⟨bytesAt data (8 * j) 3, BitVec.ofNat 8 (bytesAt data (8 * j + 3) 1), mark⟩

/-- The steps before the end of the pass go into the buffer (R105). -/
theorem appendSteps_range {pl : Player} {data : List Byte} (rest : List RawStep) (m : Nat)
    (h : ∀ j < m, ¬endsPassAt pl data j) : appendSteps pl ((List.range m).map (rawAt data) ++ rest) =
      appendSteps { pl with buffer := pl.buffer ++ (List.range m).map (stepAt data false), cursor := pl.cursor + m } rest := by
  induction m generalizing rest with
  | zero => simp
  | succ m ih =>
    have hm := h m (Nat.lt_succ_self m)
    rw [endsPassAt, not_or] at hm
    obtain ⟨hlast, hindex⟩ := hm
    have hgoes : ((rawAt data m).last || pl.cursor + m + 1 == pl.steps) = false := by
      rw [rawAt_eq, Bool.or_eq_false_iff]
      exact ⟨beq_eq_false_iff_ne.mpr hlast, beq_eq_false_iff_ne.mpr (by omega)⟩
    rw [List.range_succ, List.map_append, List.append_assoc, ih _ fun j hj => h j (by omega), List.map_append,
      List.map_singleton, List.singleton_append, appendSteps]
    dsimp only
    rw [hgoes, if_neg Bool.false_ne_true, List.append_assoc, rawAt_eq]
    rfl

/-- The step that ends the pass takes the mark, and what is behind it is discarded (R105). -/
theorem appendSteps_of_ends {pl : Player} {data : List Byte} {k j : Nat} (hj : j < k) (hends : endsPassAt pl data j)
    (h : ∀ m < j, ¬endsPassAt pl data m) :
    let buffer := pl.buffer ++ (List.range j).map (stepAt data false) ++ [stepAt data true j]
    appendSteps pl (stepsOf data k) = if pl.begun < pl.repeats
      then { pl with buffer := buffer, begun := pl.begun + 1, cursor := 0 }
      else { pl with buffer := buffer, fetched := true, cursor := pl.cursor + j + 1 } := by
  intro buffer
  obtain ⟨m, rfl⟩ : ∃ m, k = j + (m + 1) := ⟨k - j - 1, by omega⟩
  have hstops : ((rawAt data j).last || pl.cursor + j + 1 == pl.steps) = true := by
    rw [rawAt_eq, Bool.or_eq_true]
    exact hends.imp beq_iff_eq.mpr fun h => beq_iff_eq.mpr (by omega)
  rw [stepsOf_eq, List.range_add, List.map_append, appendSteps_range _ _ h, List.range_succ_eq_map, List.map_cons,
    List.map_cons, Nat.add_zero, appendSteps]
  dsimp only
  rw [if_pos hstops, rawAt_eq]
  rfl

theorem appendSteps_of_none {pl : Player} {data : List Byte} {k : Nat} (h : ∀ m < k, ¬endsPassAt pl data m) :
    appendSteps pl (stepsOf data k) =
      { pl with buffer := pl.buffer ++ (List.range k).map (stepAt data false), cursor := pl.cursor + k } := by
  rw [stepsOf_eq, ← List.append_nil ((List.range k).map _), appendSteps_range _ _ h, appendSteps]

end Sys2Proof.Machine
end

section
/-! SUPPORT. What the end of a player's read leaves (6.3, 6.5). -/

namespace Sys2Proof.Machine

/-! ## Steps arrive (R105, R106) -/

/-- A player after its refill test (R106). -/
def Player.refilled (z : Player) : Player :=
  if z.fetched = false ∧ z.buffer.length ≤ 8 then { z with request := .pending, asked := min 8 (z.steps - z.cursor) } else z

theorem Device.modPlayer_modPlayer (d : Device) (p : PlayerId) (f g : Player → Player) :
    (d.modPlayer p f).modPlayer p g = d.modPlayer p fun x => g (f x) := by
  simp [Device.modPlayer, Device.player, Vector.get_eq_getElem]

/-- A player with a request of its own when the refill test asks for one (R106). -/
def Player.tested (x : Player) : Player :=
  if refillWanted x then { x with request := .pending, asked := min 8 (x.steps - x.cursor) } else x

theorem refillTest_eq (p : PlayerId) (d : Device) : refillTest p d = d.modPlayer p Player.tested := rfl

theorem Player.tested_eq {z : Player} (hstate : z.state = .priming ∨ z.state = .playing) (hrequest : z.request = .idle) :
    z.tested = z.refilled := by
  have hhas : hasPattern z = true := by
    rcases hstate with h | h <;> simp [hasPattern, h]
  exact if_congr (by simp [refillWanted, hhas, hrequest]) rfl rfl

theorem playerReadEnd_of_retiring {p : PlayerId} {d : Device} (h : (d.player p).state = .retiring) (r : ReadEnd) :
    playerReadEnd p r d = freePlayer p d := by
  unfold playerReadEnd
  dsimp only
  rw [h]

theorem playerReadEnd_of_active {p : PlayerId} {d : Device} {k : Nat}
    (hstate : (d.player p).state = .priming ∨ (d.player p).state = .playing)
    (hrequest : (d.player p).request = .inFlight k) :
    (∀ data, playerReadEnd p (.data data) d = if (stepsOf data k).all (·.ok) then
        refillTest p (d.modPlayer p (fun pl => { appendSteps pl (stepsOf data k) with request := .idle }))
      else failPattern p 3 d) ∧
    playerReadEnd p .busError d = failPattern p 1 d ∧ playerReadEnd p .timedOut d = failPattern p 2 d := by
  unfold playerReadEnd
  rcases hstate with h | h <;> simp only [h, hrequest] <;> exact ⟨fun _ => trivial, trivial, trivial⟩

/-- The steps of a read that pass their checks go to the player, which makes its refill test (R105, R106). -/
theorem playerReadEnd_takes {p : PlayerId} {d : Device} {k : Nat} {data : List Byte} {z : Player}
    (hstate : (d.player p).state = .priming ∨ (d.player p).state = .playing) (hrequest : (d.player p).request = .inFlight k)
    (hok : (stepsOf data k).all (·.ok) = true)
    (hz : { appendSteps (d.player p) (stepsOf data k) with request := .idle } = z) (hkept : z.state = (d.player p).state) :
    let d' := playerReadEnd p (.data data) d
    d' = { d with players := d'.players } ∧ ∀ q, d'.player q = if q = p then z.refilled else d.player q := by
  obtain ⟨hdata, -, -⟩ := playerReadEnd_of_active hstate hrequest
  intro d'
  have hd' : d' = _ := (hdata data).trans (if_pos hok)
  rw [refillTest_eq, Device.modPlayer_modPlayer] at hd'
  clear_value d'
  subst hd'
  have hidle : z.request = .idle := by rw [← hz]
  refine ⟨rfl, fun q => ?_⟩
  rw [Device.modPlayer_player, hz, Player.tested_eq (by rwa [hkept]) hidle]

/-! ## A pattern fails (R111) -/

/-- The drive of the rest levels of a pattern that fails: it reaches the lines of a PLAYING one (R111). -/
def restDrive (pl : Player) (d : Device) : Device := if pl.state = .playing then applyDrive pl.lines pl.rest d else d

theorem restDrive_does (pl : Player) (d : Device) :
    restDrive pl d = { d with lines := (restDrive pl d).lines } ∧
    Driven (if pl.state = .playing then pl.lines else 0) pl.rest d (restDrive pl d) := by
  unfold restDrive
  split
  · exact ⟨applyDrive_frame .., driven_applyDrive pl.lines pl.rest d⟩
  · refine ⟨rfl, fun l => ?_⟩
    have hnone : inMask 0 l = false := by simp [inMask]
    rw [hnone, if_neg fun h => Bool.false_ne_true h.1]

/-- What the failure of a pattern leaves (R111). -/
theorem failPattern_does {p : PlayerId} {n : StreamId} {d : Device} (hstream : (d.player p).stream = some n) (cause : Nat) :
    let pl := d.player p
    let d' := failPattern p cause d
    d' = { d with
      calendar := d.calendar.filter (fun e => !isEntryOfPlayer p e),
      reports := d.reports ++ (d.calendar.filter (isEntryOfPlayer p)).map reportOf,
      lines := d'.lines, players := d'.players, holding := d'.holding, queues := d'.queues } ∧
    (∀ q, d'.player q = if q = p then Player.reset else d.player q) ∧
    Driven (if pl.state = .playing then pl.lines else 0) pl.rest d d' ∧
    Posted (d.stream n).target (plainCompletion (.stream n) 0x06 .fetchError pl.tag d.tb.now (lowestLine pl.lines)
      (d.stream n).head (sat32 pl.applied) (BitVec.ofNat 32 cause)) d d' := by
  intro pl d'
  obtain ⟨hframe, hdriven⟩ := restDrive_does pl d
  let c := plainCompletion (.stream n) 0x06 .fetchError pl.tag d.tb.now (lowestLine pl.lines) (d.stream n).head
    (sat32 pl.applied) (BitVec.ofNat 32 cause)
  let gone : Device := removeEntries (isEntryOfPlayer p) (restDrive pl d)
  have hgone : gone = { d with
      calendar := d.calendar.filter (fun e => !isEntryOfPlayer p e),
      reports := d.reports ++ (d.calendar.filter (isEntryOfPlayer p)).map reportOf, lines := (restDrive pl d).lines } := by
    change removeEntries (isEntryOfPlayer p) (restDrive pl d) = _
    rw [hframe]
    rfl
  have hd' : d' = freePlayer p (post (d.stream n).target c gone) := by
    have hmatch : d' = freePlayer p (match pl.stream with
      | some n => postPattern n pl .fetchError gone.tb.now (sat32 pl.applied) (BitVec.ofNat 32 cause) gone
      | none => gone) := rfl
    rw [hmatch, show pl.stream = some n from hstream]
    clear_value gone
    subst hgone
    rfl
  clear_value d' gone
  have hposted : Posted (d.stream n).target c gone (post (d.stream n).target c gone) := posted_post ..
  have hpost := post_frame (d.stream n).target c gone
  generalize post (d.stream n).target c gone = y at hd' hposted hpost
  subst hd'
  refine ⟨?_, fun q => ?_, fun l => ?_, ?_⟩
  · rw [freePlayer, hpost, hgone]
    rfl
  · rw [freePlayer, Device.modPlayer_player, hpost, hgone]
    rfl
  · refine Eq.trans ?_ (hdriven l)
    rw [freePlayer, hpost, hgone]
    rfl
  · refine hposted.congr ?_ ?_ ?_ rfl rfl <;> rw [hgone]

/-- Settles O48. -/
theorem bootstrapAndPlayerReadsEnd : Obligations.BootstrapAndPlayerReadsEnd := by
  intro s i data hsettled ends
  have hevent (f : Device → Device) : event f s = .next { s with dev := f s.dev } := event_of_calm hsettled.1 hsettled.2
  refine ⟨fun hnone c hc => ?_, fun x hx hlength => ?_, fun x hx hlength horphaned => ?_⟩
  · obtain ⟨r, _, _, hexec⟩ := exec_readEnds hc s
    rw [hexec, hevent, endRead_of_none hnone]
  · rw [exec_readDataReturn, hevent, endRead_of_misfit hx hlength]
  intro d at' failed
  have hhanded {c : Instr × Nat} (hc : c ∈ ends) : ∃ r, (r = .data data ∨ r = .busError ∨ r = .timedOut) ∧
      c.2 = readCause r ∧ exec c.1 s = .next { s with dev := handRead x.issuer r d } := by
    obtain ⟨r, hr, hcause, hexec⟩ := exec_readEnds_fitting hsettled hx hlength hc
    rw [horphaned] at hexec
    exact ⟨r, hr, hcause, hexec⟩
  have hreturned : exec (.readDataReturn i data) s = .next { s with dev := handRead x.issuer (.data data) d } := by
    obtain ⟨r, hr, hcause, hexec⟩ := hhanded (c := (.readDataReturn i data, 0)) (List.mem_cons_self ..)
    rcases hr with rfl | rfl | rfl
    · exact hexec
    · cases hcause
    · cases hcause
  refine ⟨fun hissuer hmode c hc => ?_, fun hissuer hmode => ⟨fun c hc hbad => ?_, fun hvalid => ?_⟩, fun p hissuer => ?_⟩
  · obtain ⟨r, _, _, hexec⟩ := hhanded hc
    rw [hexec, hissuer, handRead, bootReadEnd_of_off hmode]
  · obtain ⟨r, hr, hcause, hexec⟩ := hhanded hc
    obtain ⟨hdata, hbus, htime⟩ := bootReadEnd_of_loading (d := d) hmode
    rw [hexec, hissuer, handRead]
    rcases hr with rfl | rfl | rfl
    · have hinvalid : ¬bootBlockOk data = true := fun hok =>
        hbad.elim (fun h => h hcause) fun h => h ((bootBlockOk_iff data).mp hok)
      rw [hdata, if_neg hinvalid, failBoot_eq]
    · rw [hbus, failBoot_eq]
    · rw [htime, failBoot_eq]
  · obtain ⟨hdata, -, -⟩ := bootReadEnd_of_loading (d := d) hmode
    rw [hissuer, handRead, hdata, if_pos ((bootBlockOk_iff data).mpr hvalid)] at hreturned
    obtain ⟨hframe, hqueue⟩ := enterOn_does (bootBlockOf data) d
    exact ⟨_, hreturned, rfl, hframe, hqueue⟩
  · intro pl only
    simp only [hissuer, handRead] at hreturned hhanded
    refine ⟨fun hretiring c hc => ?_, fun k hstate hrequest => ?_⟩
    · obtain ⟨r, _, _, hexec⟩ := hhanded hc
      rw [playerReadEnd_of_retiring hretiring] at hexec
      exact ⟨_, hexec, ⟨rfl, fun q => Device.modPlayer_player ..⟩, rfl⟩
    · intro ok step endsPass takes
      obtain ⟨hdata, hbus, htime⟩ := playerReadEnd_of_active (d := d) hstate hrequest
      have hallOk : (stepsOf data k).all (·.ok) = true ↔ ok := stepsOk_iff data k
      have htakes {z : Player} (hok : ok) (hz : { appendSteps pl (stepsOf data k) with request := .idle } = z)
          (hkept : z.state = pl.state) : takes z := by
        obtain ⟨hframe, hplayer⟩ := playerReadEnd_takes hstate hrequest (hallOk.mpr hok) hz hkept
        exact ⟨_, hreturned, hframe, rfl, hplayer⟩
      refine ⟨fun hok hnone => ?_, fun hok j hends hfirst => ?_, fun c hc hbad n hstream => ?_⟩
      · refine htakes hok ?_ rfl
        rw [appendSteps_of_none fun m hm hends => hnone m ⟨hm, hends⟩]
        rfl
      · have happended := appendSteps_of_ends hends.1 hends.2 fun m hm h => hfirst m hm ⟨hm.trans hends.1, h⟩
        dsimp only at happended
        refine ⟨fun hmore => htakes hok ?_ rfl, fun hlast => htakes hok ?_ rfl⟩
        · rw [happended, if_pos hmore]
          rfl
        · rw [happended, if_neg (not_lt.mpr hlast)]
          rfl
      · obtain ⟨r, hr, hcause, hexec⟩ := hhanded hc
        have hfails : playerReadEnd p r d = failPattern p (if c.2 = 0 then 3 else c.2) d := by
          rw [hcause]
          rcases hr with rfl | rfl | rfl
          · have hinvalid : ¬(stepsOf data k).all (·.ok) = true := fun hok =>
              hbad.elim (fun h => h hcause) fun h => h (hallOk.mp hok)
            rw [hdata, if_neg hinvalid]
            rfl
          · exact hbus
          · exact htime
        rw [hfails] at hexec
        obtain ⟨hframe, hplayer, hdriven, hposted⟩ :=
          failPattern_does (d := d) (p := p) hstream (if c.2 = 0 then 3 else c.2)
        rw [apply_ite (BitVec.ofNat 32)] at hposted
        exact ⟨_, hexec, ⟨rfl, hplayer⟩, hframe, hdriven, hposted⟩

end Sys2Proof.Machine
end

section
/-! SUPPORT. Samples, accepted changes, edges into a context, and the firing of an arm wait (4.7, 4.8, 5.2, 5.5). -/

namespace Sys2Proof.Machine

theorem exec_inputSample (l : LineId) (level armsFirst : Bool) (s : State) :
    exec (.inputSample l level armsFirst) s = event (sampleLine l level armsFirst) s := rfl
theorem exec_edgeEvent (l : LineId) (armsFirst : Bool) (s : State) : exec (.edgeEvent l armsFirst) s =
    event (fun d => if (d.line l).mode = .input then acceptEdge l armsFirst d else d) s := rfl
theorem exec_armFired (n : StreamId) (s : State) : exec (.armFired n) s = act (fireHanded n) s := rfl

/-! ## The firing of an arm wait (R95) -/

/-- The context of the stream whose ARM has fired and is consumed, before it is RUNNING (R95). -/
def Stream.afterArm (threshold : Nat) (time : Time) (x : Stream) : Stream :=
  ({ x with armWait := none, anchor := time } : Stream).consumed threshold

/-- The ARM_FIRED of an arm wait (R95). -/
def armFiredCompletion (h : HandedEdge) (w : ArmWait) (head : Nat) : Completion :=
  { source := .stream h.stream, kind := 0x08, status := .armFired, tag := w.tag, time := h.time, line := w.line.val,
    head := head, rising := h.rising, frozen := h.frozen, x1 := 0, x2 := 0 }

/-- The arm wait that fires ends, its ARM is consumed, its stream is RUNNING and its completion posted (R95). -/
theorem fireArm_eq {h : HandedEdge} {w : ArmWait} {d : Device} (hw : (d.stream h.stream).armWait = some w) :
    let z := (d.stream h.stream).afterArm d.threshold h.time
    fireArm h d = postAll (postsIf w.notify z.target (armFiredCompletion h w z.head))
      ((removeEntries (isDeadlineOf h.stream) d).modStream h.stream fun x =>
        (x.afterArm d.threshold h.time).resumed) := by
  intro z
  let v : Device := removeEntries (isDeadlineOf h.stream) d
  have hresumed : setRunning h.stream (consume h.stream ((endArmWait h.stream d).modStream h.stream
      fun x => { x with anchor := h.time })) = v.modStream h.stream fun x => (x.afterArm d.threshold h.time).resumed := by
    have hended : endArmWait h.stream d = v.modStream h.stream fun x => { x with armWait := none } := rfl
    rw [consume_eq_modStream, setRunning_eq, hended, Device.modStream_modStream, Device.modStream_modStream,
      Device.modStream_modStream]
    rfl
  have hstream : (v.modStream h.stream fun x => (x.afterArm d.threshold h.time).resumed).stream h.stream = z.resumed :=
    Device.modStream_stream_self ..
  unfold fireArm
  rw [hw]
  dsimp only
  rw [hresumed, postAll_postsIf, streamCompletion, hstream]
  rfl

/-- What the firing of an arm wait leaves (R95). -/
theorem fireArm_does {h : HandedEdge} {w : ArmWait} {d : Device} (hw : (d.stream h.stream).armWait = some w) :
    let z := (d.stream h.stream).afterArm d.threshold h.time
    let d' := fireArm h d
    d' = { d with
      calendar := d.calendar.filter (fun e => !isDeadlineOf h.stream e),
      reports := d.reports ++ (d.calendar.filter (isDeadlineOf h.stream)).map reportOf,
      streams := d'.streams, holding := d'.holding, queues := d'.queues } ∧
    OnlyStream h.stream { z with state := .running, reason := .noWait } d d' ∧
    SamePosts d' (postAll (postsIf w.notify z.target (armFiredCompletion h w z.head)) d) := by
  intro z d'
  have hd' : d' = _ := fireArm_eq hw
  let v : Device := removeEntries (isDeadlineOf h.stream) d
  have hsame : SamePosts v d := ⟨rfl, rfl, rfl⟩
  obtain ⟨hframe, -, honly, hposts⟩ := posted_modStream (postsIf w.notify z.target (armFiredCompletion h w z.head)) h.stream
    (fun x => (x.afterArm d.threshold h.time).resumed) v
  rw [← hd'] at hframe honly hposts
  exact ⟨hframe, honly, hposts.trans (hsame.postAll _)⟩

/-! ## An edge into a capture context (R85 to R87) -/

section
variable {l : LineId} {c : Capture} {d : Device} {rising : Bool}

theorem captureEdge_of_none (hc : (d.line l).capture = none) (time : Time) (frozen : Bool) :
    captureEdge l rising time frozen d = d := by rw [captureEdge, hc]

theorem captureEdge_of_unselected (hc : (d.line l).capture = some c) (hedge : takesEdge c.edges rising = false)
    (time : Time) (frozen : Bool) : captureEdge l rising time frozen d = d := by
  rw [captureEdge, hc]
  dsimp only
  rw [hedge]
  rfl

/-- While the holding buffer is full a selected edge is counted as missed (R86). -/
theorem captureEdge_of_full (hc : (d.line l).capture = some c) (hedge : takesEdge c.edges rising = true)
    (hfull : 64 ≤ d.holding.length) (time : Time) (frozen : Bool) : captureEdge l rising time frozen d =
      d.modLine l fun x => { x with capture := some { c with missed := c.missed + 1 } } := by
  have hholding : holdingFull d = true := decide_eq_true hfull
  rw [captureEdge, hc]
  dsimp only
  rw [hedge, hholding]
  rfl

/-- A context that has taken an edge (R85). -/
def Capture.counted (c : Capture) : Capture := { c with captured := c.captured + 1, missed := 0 }

/-- The part after a CAPTURE_EDGE and its count (R85). -/
def edgeTaken (l : LineId) (c : Capture) (rising : Bool) (time : Time) (frozen : Bool) (d : Device) : Device :=
  (post (d.stream c.stream).target (captureEdgeCompletion l c rising time frozen d) d).modLine l
    fun x => { x with capture := some c.counted }

theorem edgeTaken_does (l : LineId) (c : Capture) (rising : Bool) (time : Time) (frozen : Bool) (d : Device) :
    let d' := edgeTaken l c rising time frozen d
    d' = { d with lines := d'.lines, holding := d'.holding, queues := d'.queues } ∧
    (∀ k, d'.line k = if k = l then { d.line l with capture := some c.counted } else d.line k) ∧
    SamePosts d' (postAll [((d.stream c.stream).target, captureEdgeCompletion l c rising time frozen d)] d) := by
  intro d'
  have hframe := post_frame (d.stream c.stream).target (captureEdgeCompletion l c rising time frozen d) d
  have hd' : d' = (post (d.stream c.stream).target (captureEdgeCompletion l c rising time frozen d) d).modLine l
    fun x => { x with capture := some c.counted } := rfl
  have hone : postAll [((d.stream c.stream).target, captureEdgeCompletion l c rising time frozen d)] d =
    post (d.stream c.stream).target (captureEdgeCompletion l c rising time frozen d) d := rfl
  rw [hone]
  generalize post (d.stream c.stream).target (captureEdgeCompletion l c rising time frozen d) d = y at hd' hframe ⊢
  clear_value d'
  subst hd'
  refine ⟨?_, fun k => ?_, rfl, rfl, rfl⟩
  · rw [hframe]
    rfl
  · have hline (m : LineId) : y.line m = d.line m := by rw [hframe]; rfl
    rw [Device.modLine_line, hline, hline]

/-- A selected edge is reported while there is room, and ends the context at its limit (R85, R87). -/
theorem captureEdge_of_room (hc : (d.line l).capture = some c) (hedge : takesEdge c.edges rising = true)
    (hroom : d.holding.length < 64) (time : Time) (frozen : Bool) : captureEdge l rising time frozen d =
      if c.limit ≠ 0 ∧ c.captured + 1 = c.limit then endCapture l (edgeTaken l c rising time frozen d)
      else edgeTaken l c rising time frozen d := by
  have hholding : holdingFull d = false := decide_eq_false (not_le.mpr hroom)
  rw [captureEdge, hc]
  dsimp only
  rw [hedge, hholding]
  rfl

/-- The edge that reaches the limit ends the context after its CAPTURE_EDGE (R87). -/
theorem captureEdge_of_limit (hc : (d.line l).capture = some c) (hedge : takesEdge c.edges rising = true)
    (hroom : d.holding.length < 64) (hlimit : c.limit ≠ 0 ∧ c.captured + 1 = c.limit) (time : Time) (frozen : Bool) :
    let x := d.stream c.stream
    let d' := captureEdge l rising time frozen d
    d' = { d with
      calendar := d.calendar.filter (fun e => !isEndEntryOf l e),
      reports := d.reports ++ (d.calendar.filter (isEndEntryOf l)).map reportOf,
      lines := d'.lines, holding := d'.holding, queues := d'.queues } ∧
    (∀ k, d'.line k = if k = l then { d.line l with capture := none } else d.line k) ∧
    SamePosts d' (postAll ((x.target, captureEdgeCompletion l c rising time frozen d) ::
      postsIf c.notify x.target (plainCompletion (.stream c.stream) 0x07 .captureDone c.tag d.tb.now l.val x.head
        (sat32 (c.captured + 1)) 0)) d) := by
  intro x d'
  obtain ⟨hframe, hlines, hposts⟩ := edgeTaken_does l c rising time frozen d
  have hd' : d' = _ := (captureEdge_of_room hc hedge hroom time frozen).trans (if_pos hlimit)
  generalize edgeTaken l c rising time frozen d = v at hframe hlines hposts hd'
  have hopen : (v.line l).capture = some c.counted := by rw [hlines, if_pos rfl]
  have hstream (n : StreamId) : v.stream n = d.stream n := by rw [hframe]; rfl
  have hdone : capturesDone v l = postsIf c.notify x.target (plainCompletion (.stream c.stream) 0x07 .captureDone c.tag
      d.tb.now l.val x.head (sat32 (c.captured + 1)) 0) := by
    have hnow : v.tb.now = d.tb.now := by rw [hframe]
    rw [capturesDone, hopen]
    dsimp only
    rw [hstream, hnow]
    rfl
  obtain ⟨hframe', hlines', hposts'⟩ := endCapture_does (d := v) (l := l) (by rw [hopen]; rfl)
  rw [hdone] at hposts'
  rw [← hd'] at hframe' hlines' hposts'
  refine ⟨?_, fun k => ?_, hposts'.trans (hposts.postAll _)⟩
  · refine hframe'.trans ?_
    rw [hframe]
  · rw [hlines', hlines, hlines, if_pos rfl]
    split <;> rfl

end

/-! ## An accepted change (R77) -/

/-- A line after an accepted change of its filtered level (R77). -/
def Line.changed (x : Line) : Line := { x with filtered := !x.filtered, agree := 0, sampled := true }

/-- The edges handed to the arm waits that watch a line, at a change of its filtered level (R95). -/
def handedEdges (l : LineId) (d : Device) : List HandedEdge :=
  (allStreams.filter (firesOn d l (!(d.line l).filtered))).map
    fun n => ⟨n, !(d.line l).filtered, d.tb.now, d.tb.mode != .running⟩

/-- The context of a line takes the edge of a change of its filtered level. -/
def edgeToCapture (l : LineId) (d : Device) : Device → Device :=
  captureEdge l (!(d.line l).filtered) d.tb.now (d.tb.mode != .running)

/-- The line takes the change of its filtered level. -/
def changeLine (l : LineId) (d : Device) : Device := d.modLine l Line.changed

theorem changeLine_line (l k : LineId) (d : Device) :
    (changeLine l d).line k = if k = l then (d.line l).changed else d.line k := Device.modLine_line ..

theorem acceptEdge_eq (l : LineId) (armsFirst : Bool) (d : Device) : acceptEdge l armsFirst d =
    if armsFirst then edgeToCapture l d ((handedEdges l d).foldl (fun d h => fireArm h d) (changeLine l d))
    else { edgeToCapture l d (changeLine l d) with
      edges := (edgeToCapture l d (changeLine l d)).edges ++ handedEdges l d } := rfl

/-- No arm wait watches the line. -/
def Unwatched (l : LineId) (d : Device) : Prop := ∀ n w, (d.stream n).armWait = some w → w.line ≠ l

theorem handedEdges_of_unwatched {l : LineId} {d : Device} (h : Unwatched l d) : handedEdges l d = [] := by
  have hnone : allStreams.filter (firesOn d l (!(d.line l).filtered)) = [] := by
    refine List.filter_eq_nil_iff.mpr fun n _ hfires => ?_
    obtain ⟨w, hw, hline⟩ := (Option.any_eq_true ..).mp hfires
    exact h n w hw (beq_iff_eq.mp (Bool.and_eq_true_iff.mp hline).1)
  rw [handedEdges, hnone]
  rfl

/-- With the context before the arm waits, or without arm waits, the edge goes to the context, and to the arm waits as
handed (R77, log 17). -/
theorem acceptEdge_of_capture {l : LineId} {armsFirst : Bool} {d : Device} (h : armsFirst = false ∨ Unwatched l d) :
    acceptEdge l armsFirst d = { edgeToCapture l d (changeLine l d) with
      edges := (edgeToCapture l d (changeLine l d)).edges ++ handedEdges l d } := by
  rw [acceptEdge_eq]
  rcases h with rfl | h
  · rfl
  · rw [handedEdges_of_unwatched h, List.append_nil]
    cases armsFirst <;> rfl

theorem exec_edgeEvent_of_input {s : State} {l : LineId} (hsettled : Settled s) (hmode : (s.dev.line l).mode = .input)
    (armsFirst : Bool) : exec (.edgeEvent l armsFirst) s = .next { s with dev := acceptEdge l armsFirst s.dev } := by
  rw [exec_edgeEvent, event_of_calm hsettled.1 hsettled.2, if_pos hmode]

/-- Without a context the edge stands handed to the arm waits. -/
theorem acceptEdge_of_no_capture {l : LineId} {armsFirst : Bool} {d : Device} (h : armsFirst = false ∨ Unwatched l d)
    (hc : (d.line l).capture = none) :
    acceptEdge l armsFirst d = { changeLine l d with edges := d.edges ++ handedEdges l d } := by
  have hnone : ((changeLine l d).line l).capture = none := by rw [changeLine_line, if_pos rfl]; exact hc
  rw [acceptEdge_of_capture h, edgeToCapture, captureEdge_of_none hnone]
  rfl

/-- Settles O31. -/
theorem filterAcceptsAfterAgreement : Obligations.FilterAcceptsAfterAgreement := by
  intro s l level armsFirst hsettled x only
  have hsample : exec (.inputSample l level armsFirst) s = .next { s with dev := sampleLine l level armsFirst s.dev } := by
    rw [exec_inputSample, event_of_calm hsettled.1 hsettled.2]
  have honly (f : Line → Line) : only (f x) { s with dev := s.dev.modLine l f } :=
    ⟨rfl, rfl, fun k => Device.modLine_line s.dev l k f⟩
  refine ⟨fun hmode => ?_, fun hmode hlevel => ?_, fun hmode hlevel hless => ?_, fun hmode hlevel hmost => ?_,
    fun hmode hc hunwatched => ?_⟩
  · rw [hsample, sampleLine, if_pos hmode]
  · rw [sampleLine, if_neg (not_not.mpr hmode), if_pos hlevel] at hsample
    exact ⟨_, hsample, honly fun x => { x with agree := 0, sampled := true }⟩
  · rw [sampleLine, if_neg (not_not.mpr hmode), if_neg hlevel, if_neg (not_le.mpr hless)] at hsample
    exact ⟨_, hsample, honly fun x => { x with agree := x.agree + 1, sampled := true }⟩
  · rw [hsample, exec_edgeEvent_of_input hsettled hmode, sampleLine, if_neg (not_not.mpr hmode), if_neg hlevel, if_pos hmost]
  · have hexec := exec_edgeEvent_of_input hsettled hmode armsFirst
    rw [acceptEdge_of_no_capture (.inr hunwatched) hc, handedEdges_of_unwatched hunwatched, List.append_nil] at hexec
    exact ⟨_, hexec, honly Line.changed⟩

theorem fireHanded_of_some {n : StreamId} {h : HandedEdge} {d : Device}
    (hh : d.edges.find? (fun h => h.stream == n) = some h) :
    fireHanded n d = fireArm h { d with edges := d.edges.erase h } := by rw [fireHanded, hh]

/-- Settles O33. -/
theorem armWaitFires : Obligations.ArmWaitFires := by
  refine ⟨fun s l hsettled hmode hc => ?_, fun s n h w hreset hh hw => ?_⟩
  · have hexec := exec_edgeEvent_of_input hsettled hmode false
    rw [acceptEdge_of_no_capture (.inl rfl) hc] at hexec
    exact ⟨_, hexec, rfl, rfl, fun k => changeLine_line l k s.dev, rfl⟩
  · intro x
    obtain rfl : h.stream = n := beq_iff_eq.mp (List.find?_some (p := fun h : HandedEdge => h.stream == n) hh)
    have hexec : exec (.armFired h.stream) s =
        .next { s with dev := fireArm h { s.dev with edges := s.dev.edges.erase h } } := by
      rw [exec_armFired, act_of_high hreset, fireHanded_of_some hh]
    obtain ⟨hframe, honly, hposts⟩ := fireArm_does (d := { s.dev with edges := s.dev.edges.erase h }) hw
    refine ⟨_, hexec, rfl, hframe, honly, ?_⟩
    exact (postedIf_of_samePosts hposts).congr rfl rfl rfl rfl rfl

/-! ## CAPTURE_EDGE (R85 to R87) -/

theorem length_post_le (q : CqId) (c : Completion) (d : Device) :
    (post q c d).holding.length ≤ d.holding.length + 1 := by
  by_cases h : d.holding.length < 64 ∧ (d.queue q).state = .active
  · rw [post_of_taken h]
    simp
  · rw [post_of_lost h]
    exact Nat.le_succ _

theorem length_postsIf_le (b : Bool) (q : CqId) (c : Completion) (d : Device) :
    (postAll (postsIf b q c) d).holding.length ≤ d.holding.length + 1 := by
  rw [postAll_postsIf]
  cases b
  · exact Nat.le_succ _
  · exact length_post_le q c d

/-- The edge that one arm wait alone takes. -/
theorem handedEdges_of_one {l : LineId} {n : StreamId} {w : ArmWait} {d : Device} (hw : (d.stream n).armWait = some w)
    (hline : w.line = l) (hedge : takesEdge w.edges (!(d.line l).filtered) = true)
    (hothers : ∀ m v, m ≠ n → (d.stream m).armWait = some v → v.line ≠ l) :
    handedEdges l d = [⟨n, !(d.line l).filtered, d.tb.now, d.tb.mode != .running⟩] := by
  have hfires (m : StreamId) : firesOn d l (!(d.line l).filtered) m = decide (m = n) := by
    by_cases hm : m = n
    · rw [decide_eq_true hm, hm, firesOn, hw]
      simp [hline, hedge]
    · rw [decide_eq_false hm, firesOn, Option.any_eq_false]
      intro v hv
      simp [hothers m v hm hv]
  have hone : ∀ n : StreamId, allStreams.filter (fun m => decide (m = n)) = [n] := by decide
  rw [handedEdges, List.filter_congr fun m _ => hfires m, hone]
  rfl

/-- Settles O32. -/
theorem captureCountsEdges : Obligations.CaptureCountsEdges := by
  intro s l armsFirst c hsettled hmode hc x rising y frozen edge becomes below counted
  have hexec := exec_edgeEvent_of_input hsettled hmode armsFirst
  let e := changeLine l s.dev
  have hline (k : LineId) : e.line k = if k = l then y else s.dev.line k := changeLine_line l k s.dev
  have hself : e.line l = y := (hline l).trans (if_pos rfl)
  have hce : (e.line l).capture = some c := by rw [hself]; exact hc
  have hsame : SamePosts e s.dev := ⟨rfl, rfl, rfl⟩
  have hlimit : ¬(c.limit ≠ 0 ∧ c.captured + 1 = c.limit) ↔ below := by
    rw [not_and_or, not_not]
  refine ⟨fun hfirst => ?_, fun n w hfirst hw hwl hwedge hothers hedge hroom hbelow => ?_⟩
  · intro edges
    rw [acceptEdge_of_capture hfirst] at hexec
    refine ⟨fun hedge => ?_, fun hedge hfull => ?_, fun hedge hroom hbelow => ?_, fun hedge hroom hbelow => ?_⟩
    · rw [edgeToCapture, captureEdge_of_unselected hce hedge] at hexec
      exact ⟨_, hexec, rfl, rfl, hline⟩
    · rw [edgeToCapture, captureEdge_of_full hce hedge hfull] at hexec
      refine ⟨_, hexec, rfl, rfl, fun k => ?_⟩
      refine (Device.modLine_line e l k fun x => { x with capture := some { c with missed := c.missed + 1 } }).trans ?_
      rw [hself, hline]
      split <;> rfl
    · rw [edgeToCapture, captureEdge_of_room hce hedge hroom, if_neg (hlimit.mpr hbelow)] at hexec
      obtain ⟨hframe, hlines, hposts⟩ := edgeTaken_does l c rising s.dev.tb.now frozen e
      have hposts' := hposts.trans (hsame.postAll _)
      refine ⟨_, hexec, rfl, ?_, fun k => ?_, ?_⟩
      · dsimp only
        rw [hframe]
        rfl
      · refine (hlines k).trans ?_
        rw [hself, hline]
        split <;> rfl
      · exact (posted_post ..).congr rfl rfl rfl hposts'.1.symm hposts'.2.1.symm
    · intro endOf
      rw [edgeToCapture] at hexec
      obtain ⟨hframe, hlines, hposts⟩ := captureEdge_of_limit hce hedge hroom (not_not.mp (mt hlimit.mp hbelow))
        s.dev.tb.now frozen
      have hposts' := hposts.trans (hsame.postAll _)
      refine ⟨_, hexec, rfl, ?_, fun k => ?_, hposts'.1, hposts'.2.1⟩
      · dsimp only
        rw [hframe]
        rfl
      · refine (hlines k).trans ?_
        rw [hself, hline]
        split <;> rfl
  · intro z fired
    let h : HandedEdge := ⟨n, rising, s.dev.tb.now, frozen⟩
    obtain ⟨hfired, hfiredOnly, hfiredPosts⟩ := fireArm_does (h := h) (d := e) hw
    rw [acceptEdge_eq, hfirst, if_pos rfl, handedEdges_of_one hw hwl hwedge hothers, List.foldl_cons, List.foldl_nil,
      edgeToCapture] at hexec
    have hlength := length_postsIf_le w.notify ((e.stream n).afterArm e.threshold h.time).target
      (armFiredCompletion h w ((e.stream n).afterArm e.threshold h.time).head) e
    rw [← hfiredPosts.1] at hlength
    change exec (.edgeEvent l true) s =
      .next { s with dev := captureEdge l rising s.dev.tb.now frozen (fireArm h e) } at hexec
    generalize fireArm h e = f at hexec hfired hfiredOnly hfiredPosts hlength
    have hfline (k : LineId) : f.line k = e.line k := by rw [hfired]; rfl
    have hcf : (f.line l).capture = some c := by rw [hfline]; exact hce
    have hfroom : f.holding.length < 64 := lt_of_le_of_lt hlength (Nat.succ_lt_succ hroom)
    rw [captureEdge_of_room hcf hedge hfroom, if_neg (hlimit.mpr hbelow)] at hexec
    obtain ⟨hframe, hlines, hposts⟩ := edgeTaken_does l c rising s.dev.tb.now frozen f
    have hstream (m : StreamId) : (edgeTaken l c rising s.dev.tb.now frozen f).stream m = f.stream m := by
      rw [hframe]; rfl
    have htarget : (f.stream c.stream).target = (s.dev.stream c.stream).target := by
      have hconsumed : z.target = (s.dev.stream n).target := Stream.consumed_target ..
      rw [hfiredOnly c.stream]
      split
      · next hn => rw [hn]; exact hconsumed
      · rfl
    have hposts' := hposts.trans ((hfiredPosts.trans (hsame.postAll _)).postAll _)
    rw [← postAll_append, htarget] at hposts'
    rw [hfirst]
    refine ⟨_, hexec, rfl, ?_, fun k => ?_, fun m => ?_, ?_⟩
    · have hstreams : (edgeTaken l c rising s.dev.tb.now frozen f).streams = f.streams := by rw [hframe]
      refine hframe.trans ?_
      rw [hstreams]
      generalize edgeTaken l c rising s.dev.tb.now frozen f = g
      rw [hfired]
      rfl
    · refine (hlines k).trans ?_
      rw [hfline, hfline, hself, hline]
      split <;> rfl
    · exact (hstream m).trans (hfiredOnly m)
    · have hhead : ((edgeTaken l c rising s.dev.tb.now frozen f).stream c.stream).head = (f.stream c.stream).head := by
        rw [hstream]
      have hcompletion : armFiredCompletion h w z.head = fired := by rw [armFiredCompletion, hwl]
      rw [← hcompletion]
      refine postedAll_of_samePosts ?_
      dsimp only
      rw [hhead]
      exact hposts'

end Sys2Proof.Machine
end

section
/-! SUPPORT. One period of the internal oscillator (1.4, 4.7, 8.7, 10.3, 10.4). -/

namespace Sys2Proof.Machine

/-! ## The line table and the urgent events -/

/-- What one outcome of a choice is not, another is not. -/
theorem none_of_none {b : Bool} {x y : Device} (h : (if b then some x else none) = none) :
    (if b then some y else none) = none := by
  cases b
  · rfl
  · cases h

/-- Whether an urgent event is pending does not depend on the line table. -/
theorem urgentOf_lines (u : Urgency) (ls : Vector Line 32) (d : Device) (h : urgentOf u d = none) :
    urgentOf u { d with lines := ls } = none := by
  have hafter {x y : Option Device} (hxy : x = none → y = none) (h : afterInstant d x = none) :
      afterInstant { d with lines := ls } y = none := by
    unfold afterInstant at h ⊢
    dsimp only
    split
    · rfl
    · next hopen => exact hxy ((if_neg hopen).symm.trans h)
  have hmap {o : Option StreamId} {f g : StreamId → Device} (h : o.map f = none) : o.map g = none := by
    cases o
    · rfl
    · cases h
  cases u with
  | edge =>
    have hnone : d.edges = [] := by
      cases hedges : d.edges with
      | nil => rfl
      | cons x xs => simp [urgentOf, urgentEdge, hedges] at h
    simp [urgentOf, urgentEdge, hnone]
  | report =>
    have hnone : d.reports = [] := by
      cases hreports : d.reports with
      | nil => rfl
      | cons x xs => simp [urgentOf, urgentReport, hreports] at h
    simp [urgentOf, urgentReport, hnone]
  | stopped => exact hmap h
  | expiry => exact none_of_none (b := d.instantOpen) h
  | space => exact hafter (x := urgentSpace d) hmap h
  | player => exact hafter (x := urgentPlayer d) hmap h
  | query => exact hafter (x := urgentQuery d) (none_of_none (b := queryAnswered d)) h
  | teardown => exact hafter (x := urgentTeardown d) (none_of_none (b := teardownOver d)) h
  | grant => exact hafter (x := urgentGrant d) (none_of_none (b := grantPossible d)) h
  | write => exact hafter (x := urgentWrite d) (none_of_none (b := d.outstanding.isNone && hasEligible d)) h

/-- With nothing urgent pending, nothing is when lines have changed. -/
theorem calm_of_lines {due : Bool} {us : List Urgency} {d : Device} (h : calm due us d = true) (ls : Vector Line 32) :
    calm due us { d with lines := ls } = true := by
  rw [calm_iff] at *
  simp only [urgent, Option.or_eq_none_iff, List.findSome?_eq_none_iff] at *
  exact ⟨fun u hu => urgentOf_lines u ls d (h.1 u hu), none_of_none (b := due && dueNow d) h.2⟩

/-! ## Commands one after another -/

/-- Commands that are events of the part, and keep RESET_N high, one after another. -/
theorem runAll_of_events {α : Type} {cmd : α → Instr} {f : α → Device → Device}
    (hexec : ∀ x s, exec (cmd x) s = event (f x) s) (hkeeps : ∀ x d, Keeps d (f x d)) (xs : List α) (s : State)
    (hup : s.dev.host.resetN = true) : let d' := xs.foldl (fun d x => f x (settle false allUrgencies d)) s.dev
    runAll (xs.map cmd) s = .next { s with dev := d' } ∧ d'.host.resetN = true := by
  induction xs generalizing s with
  | nil => exact ⟨rfl, hup⟩
  | cons x xs ih =>
    have hfirst : exec (cmd x) s = .next { s with dev := f x (settle false allUrgencies s.dev) } := by
      rw [hexec]
      exact act_of_high hup
    obtain ⟨hrun, hstays⟩ := ih { s with dev := f x (settle false allUrgencies s.dev) }
      (((keeps_settle ..).trans (hkeeps x _)).up hup)
    refine ⟨?_, hstays⟩
    rw [List.map_cons, runAll, hfirst]
    exact hrun

/-- The samples of a period are the commands that the claims name. -/
theorem runAll_samples (s : State) (hup : s.dev.host.resetN = true) :
    runAll (samples s.dev) s = .next { s with dev := samplePins s.dev } ∧ (samplePins s.dev).host.resetN = true := by
  rw [samples_eq]
  exact runAll_of_events (cmd := fun x : LineId × Bool => .inputSample x.1 x.2 false)
    (f := fun x => sampleLine x.1 x.2 false) (fun x s => rfl) (fun x d => keeps_sampleLine ..) _ s hup

/-- The command of a count that runs out. -/
def runOutCommand : RunOut → Instr
  | .read i => .readTimeout i
  | .write i => .writeTimeout i
  | .timer q => .coalescingTimeout q

theorem timeouts_eq (d : Device) : timeouts d = (overdue d).map runOutCommand := by
  simp only [timeouts, overdue, List.map_append, List.map_map, ranOut, Config.periodsPerMicrosecond]
  rfl

theorem exec_runOutCommand (x : RunOut) (s : State) : exec (runOutCommand x) s = event (runOut x) s := by cases x <;> rfl

/-- The counts of a period that have reached their limits run out as by the commands that the claims name. -/
theorem runAll_timeouts (s : State) (hup : s.dev.host.resetN = true) : runAll (timeouts s.dev) s = .next { s with
    dev := (overdue s.dev).foldl (fun d x => runOut x (settle false allUrgencies d)) s.dev } := by
  rw [timeouts_eq]
  exact (runAll_of_events exec_runOutCommand keeps_runOut _ s hup).1

/-! ## An idle period -/

theorem countGap_of_below {d : Device} (h : d.tb.gap < 63) :
    countGap d = { d with tb := { d.tb with gap := d.tb.gap + 1 } } := by
  have hlimit : Config.gapLimit = 64 := rfl
  rw [countGap, hlimit, if_neg (by omega), if_pos (by omega)]
  rfl

theorem countGap_of_reached {d : Device} (h : d.tb.gap = 63) : countGap d = takeGap d := by
  have hlimit : Config.gapLimit = 64 := rfl
  rw [countGap, hlimit, if_pos (by omega)]

theorem countGap_of_over {d : Device} (h : 63 < d.tb.gap) : countGap d = d := by
  have hlimit : Config.gapLimit = 64 := rfl
  rw [countGap, hlimit, if_neg (by omega), if_neg (by omega)]

theorem step_of_idle {s : State} (hpending : s.pending = []) : step s = act oscillatorPeriod s := by
  rw [step, hpending]

/-- A line that has had the sample of its period, with no change at the end of its filter (R75, R76). -/
def Line.sampledOnce (x : Line) : Line := { x with agree := if x.agree = 0 then 0 else x.agree + 1, sampled := true }

/-- A change of the line in progress is not yet at the end of its filter (R76). -/
def Line.Steady (x : Line) : Prop := x.mode = .input ∧ (x.agree ≠ 0 → x.agree < x.filterLength)

theorem modLine_eq {l : LineId} {f g : Line → Line} {d : Device} (h : f (d.line l) = g (d.line l)) :
    d.modLine l f = d.modLine l g := by rw [Device.modLine, h, Device.modLine]

theorem sampleLine_of_steady {l : LineId} {d : Device} (h : (d.line l).Steady) :
    sampleLine l (d.line l).pinLevel false d = d.modLine l Line.sampledOnce := by
  obtain ⟨hmode, hfilter⟩ := h
  unfold sampleLine
  dsimp only
  rw [if_neg (not_not.mpr hmode)]
  by_cases hagree : (d.line l).agree = 0
  · rw [Line.pinLevel, if_pos hagree, if_pos rfl]
    exact modLine_eq (by rw [Line.sampledOnce, if_pos hagree])
  · rw [Line.pinLevel, if_neg hagree, if_neg (Bool.not_ne_self _), if_neg (not_le.mpr (hfilter hagree))]
    exact modLine_eq (by rw [Line.sampledOnce, if_neg hagree])

/-- The samples of steady lines, one after another, leave each of those lines with its sample. -/
theorem foldl_samples_of_steady (ls : List LineId) (hls : ls.Nodup) (level : LineId → Bool) (d : Device)
    (hcalm : calm false allUrgencies d = true) (hlevel : ∀ l ∈ ls, level l = (d.line l).pinLevel)
    (hsteady : ∀ l ∈ ls, (d.line l).Steady) :
    let d' := (ls.map fun l => (l, level l)).foldl
      (fun d x => sampleLine x.1 x.2 false (settle false allUrgencies d)) d
    d' = { d with lines := d'.lines } ∧ ∀ k, d'.line k = if k ∈ ls then (d.line k).sampledOnce else d.line k := by
  induction ls generalizing d with
  | nil => exact ⟨rfl, fun _ => rfl⟩
  | cons l ls ih =>
    obtain ⟨hl, hls⟩ := List.nodup_cons.mp hls
    have hother (k : LineId) (hk : k ∈ ls) : (d.modLine l Line.sampledOnce).line k = d.line k := by
      rw [Device.modLine_line, if_neg fun h : k = l => hl (h ▸ hk)]
    have hfirst : sampleLine l (level l) false (settle false allUrgencies d) = d.modLine l Line.sampledOnce := by
      rw [settle_of_calm hcalm, hlevel l (List.mem_cons_self ..),
        sampleLine_of_steady (hsteady l (List.mem_cons_self ..))]
    obtain ⟨hframe, hlines⟩ := ih hls (d.modLine l Line.sampledOnce) (calm_of_lines hcalm _)
      (fun k hk => by rw [hother k hk]; exact hlevel k (List.mem_cons_of_mem _ hk))
      (fun k hk => by rw [hother k hk]; exact hsteady k (List.mem_cons_of_mem _ hk))
    rw [List.map_cons, List.foldl_cons, hfirst]
    refine ⟨hframe, fun k => ?_⟩
    rw [hlines, Device.modLine_line]
    by_cases hk : k = l
    · subst hk; simp [hl]
    · simp [hk]

/-- With no read, write or timer running a period ages nothing but the marks of the lines. -/
theorem aged_of_idle {d : Device} (hreads : d.reads = []) (hwrites : d.writes = [])
    (htimers : ∀ q, (d.queue q).timer = none) :
    aged d = { d with lines := (aged d).lines } ∧ overdue (aged d) = [] := by
  have hqueues : d.queues.map (fun c => { c with timer := c.timer.map (· + 1) }) = d.queues := by
    refine Vector.ext fun i hi => ?_
    have htimer : d.queues[i].timer = none := htimers ⟨i, hi⟩
    rw [Vector.getElem_map, htimer, Option.map_none, ← htimer]
  have hframe : aged d = { d with lines := (aged d).lines } := by
    unfold aged
    rw [hqueues, hreads, hwrites]
    rfl
  refine ⟨hframe, ?_⟩
  rw [hframe]
  have hnone : ∀ q, Option.any (fun t => ranOut t (d.queue q).timeThreshold) (d.queue q).timer = false := fun q => by
    rw [htimers q]; rfl
  have htimed : allQueues.filter (fun q => (d.queue q).timer.any (fun t => ranOut t (d.queue q).timeThreshold)) = [] :=
    List.filter_eq_nil_iff.mpr fun q _ => by rw [hnone q]; exact Bool.false_ne_true
  unfold overdue
  dsimp only
  rw [hreads, hwrites]
  exact congrArg (List.map RunOut.timer) htimed

/-- Settles O2. -/
theorem idlePeriodRaisesGapCount : Obligations.IdlePeriodRaisesGapCount := by
  intro s hpending
  refine ⟨fun hsettled hreads hwrites htimers hgap hfilter => ?_, fun v u hup hsamples => ?_⟩
  · have hcalm : calm false allUrgencies s.dev = true := hsettled.settled.2
    let due := allLines.filter fun l => (s.dev.line l).mode == .input && !(s.dev.line l).sampled
    have hdue (l : LineId) : l ∈ due ↔ (s.dev.line l).mode = .input ∧ (s.dev.line l).sampled = false := by
      simp [due, mem_allLines]
    obtain ⟨hframe, hlines⟩ := foldl_samples_of_steady due (nodup_allLines.filter _) (fun l => (s.dev.line l).pinLevel)
      s.dev hcalm (fun _ _ => rfl) fun l hl => by
        obtain ⟨hmode, hsampled⟩ := (hdue l).mp hl
        exact ⟨hmode, hfilter l hmode hsampled⟩
    have hsampled : oscillatorPeriod s.dev = (overdue (aged (countGap (settle true allUrgencies (samplePins s.dev))))).foldl
      (fun d x => runOut x (settle false allUrgencies d)) (aged (countGap (settle true allUrgencies (samplePins s.dev)))) := rfl
    have hpins : samplePins s.dev = (due.map fun l => (l, (s.dev.line l).pinLevel)).foldl
      (fun d x => sampleLine x.1 x.2 false (settle false allUrgencies d)) s.dev := rfl
    rw [← hpins] at hframe hlines
    have hsettle : settle true allUrgencies (samplePins s.dev) = samplePins s.dev := by
      rw [hframe]
      exact settle_of_calm (calm_of_lines hsettled.2 _)
    rw [hsettle] at hsampled
    generalize samplePins s.dev = y at hframe hlines hsampled
    have hgapy : y.tb.gap < 63 := by rw [hframe]; exact hgap
    let z : Device := { y with tb := { y.tb with gap := y.tb.gap + 1 } }
    have hready : y.reads = [] := by rw [hframe]; exact hreads
    have hwritey : y.writes = [] := by rw [hframe]; exact hwrites
    have htimery (q : CqId) : (y.queue q).timer = none := by rw [hframe]; exact htimers q
    obtain ⟨haged, hnone⟩ := aged_of_idle (d := z) hready hwritey htimery
    rw [countGap_of_below hgapy, show (aged { y with tb := { y.tb with gap := y.tb.gap + 1 } }) = aged z from rfl, hnone,
      List.foldl_nil] at hsampled
    refine ⟨{ s with dev := aged z }, ?_, hpending, ?_, fun l => ?_⟩
    · rw [step_of_idle hpending, act_of_high hsettled.1, hsampled]
    · refine haged.trans ?_
      generalize (aged z).lines = ls
      rw [show z = { y with tb := { y.tb with gap := y.tb.gap + 1 } } from rfl, hframe]
    · have hz : z.line l = y.line l := rfl
      dsimp only
      rw [aged_line, hz, hlines, if_congr (hdue l) rfl rfl]
      by_cases h : (s.dev.line l).mode = .input ∧ (s.dev.line l).sampled = false
      · obtain ⟨hmode, hmark⟩ := h
        by_cases hagree : (s.dev.line l).agree = 0 <;> simp [hmode, hmark, hagree, Line.sampledOnce]
      · rw [if_neg h, if_neg fun h' => h ⟨h'.1, h'.2.1⟩]
  · intro w hbelow hreached hover
    obtain ⟨hrun, hupv⟩ := runAll_samples s hup
    obtain rfl : { s with dev := samplePins s.dev } = v := by
      rw [hrun] at hsamples
      injection hsamples
    have hu : u = { s with dev := countGap (settle true allUrgencies (samplePins s.dev)) } := by
      rcases lt_trichotomy w.dev.tb.gap 63 with h | h | h
      · rw [hbelow h, countGap_of_below h]
      · have hgap : exec .refGap { s with dev := samplePins s.dev } = .next { s with dev := takeGap w.dev } := by
          rw [exec_refGap]
          exact act_of_high hupv
        have hsame := (hreached h).symm.trans hgap
        injection hsame with hsame
        rw [hsame, countGap_of_reached h]
      · rw [hover h, countGap_of_over h]
    have hupu : (aged u.dev).host.resetN = true := by
      rw [hu]
      exact (((keeps_settle true allUrgencies _).trans (keeps_countGap _)).trans (keeps_ageCounts _)).up hupv
    rw [step_of_idle hpending, act_of_high hup, runAll_timeouts { u with dev := aged u.dev } hupu, hu]
    rfl

end Sys2Proof.Machine
end

section
/-! SUPPORT. Steps of device time, and the entries that a forward step passes over (1.5, 2.6). -/

namespace Sys2Proof.Machine

/-! ## The claim, case by case -/

/-- A completion of the stream of an entry that a step passes over. -/
def stepNotice (e : Entry) (d : Device) (status : Status) (tag : Tag) (time : Time) (line : Nat) (x1 x2 : W32) :
    CqId × Completion :=
  ((d.stream e.stream).target,
    plainCompletion (.stream e.stream) (entryKindCode e.kind) status tag time line (d.stream e.stream).head x1 x2)

/-- An entry passed over stays in the calendar, as `e'` (R35). -/
def PassStays (now : Time) (e' : Entry) (d d' : Device) (late : Bool) : Prop :=
  late = true ∧ d' = { d with calendar := insertEntry now e' d.calendar }

/-- An entry passed over leaves the calendar: its freeing is reported, its player ends, its drives reach the lines and its
completions are posted (R36 to R38, R114). -/
def PassLeaves (e : Entry) (ended : Option PlayerId) (driven levels : Mask) (said : List (CqId × Completion))
    (d d' : Device) : Prop :=
  d' = { d with reports := d.reports ++ [reportOf e], lines := d'.lines, players := d'.players, holding := d'.holding,
                queues := d'.queues } ∧
  (∀ q, d'.player q = if ended = some q then endedPlayer (d.player q) else d.player q) ∧ Driven driven levels d d' ∧
  PostedAll said d d'

/-- An entry passed over is judged (R36, R38). -/
def PassJudged (now : Time) (p : Nat) (e : Entry) (ended : Option PlayerId) (d d' : Device) (late : Bool) : Prop :=
  (p ≤ e.window → PassStays now { e with due := now, lateMark := e.kind == .pulse && e.lateMark } d d' late) ∧
  (e.window < p → e.lateRun = true → PassStays now { e with due := now, lateMark := true } d d' late) ∧
  (e.window < p → e.lateRun = false → late = false ∧
    PassLeaves e ended 0 0 [stepNotice e d .lateSkipped e.tag e.due (lowestLine e.lines) (sat32 p) 0] d d')

/-- The entry is in the phase. -/
def InPhase (e : Entry) (ph : Phase) : Prop := ∃ w, e.phase = some ⟨ph, w⟩

theorem passedOver_iff {now : Time} {p : Nat} {e : Entry} {d d' : Device} {late : Bool} : PassedOver now p e d d' late ↔
    (e.kind = .set ∨ e.kind = .marker ∨ (e.kind = .pulse ∧ InPhase e .start) → PassJudged now p e none d d' late) ∧
    (e.kind = .captureEnd ∨ e.kind = .armDeadline ∨ (e.kind = .pulse ∧ InPhase e .ending) ∨
      (e.kind = .train ∧ InPhase e .ending ∧ e.train.isSome = true) → PassStays now { e with due := now } d d' late) ∧
    (∀ g back m, e.kind = .train → InPhase e .start → e.train = some g → PointsBehind now g back m →
      (g.remaining = 0 ∨ m < g.remaining → PassStays now { e with
        due := gridPointAt g m, train := some { g with missed := g.missed + m, remaining := g.remaining - m } } d d' late) ∧
      (g.remaining ≠ 0 → g.remaining ≤ m → late = true ∧ PassLeaves e none 0 0
        (if e.notify || e.lateMark then [stepNotice e d (if e.lateMark then .lateDone else .done) e.tag now
          (lowestLine e.lines) (sat32 g.driven) (sat32 (g.missed + g.remaining))] else []) d d')) ∧
    (∀ q, e.kind = .patternStep → e.player = some q →
      ((d.player q).state = .priming → PassJudged now p e (some q) d d' late) ∧
      ((d.player q).state = .playing → late = false ∧ PassLeaves e (some q) (d.player q).lines (d.player q).rest
        [stepNotice e d .timeStepped (d.player q).tag now (lowestLine (d.player q).lines) (sat32 (d.player q).applied)
          (sat32 (d.player q).completed)] d d')) := Iff.rfl

/-! ## What a resolution does -/

/-- What the resolution of an entry may change, and what it counts: the entry as late, or as skipped (R35). -/
def StepsOver (x y : Resolution) (late : Bool) : Prop :=
  y.late = x.late + late.toNat ∧ y.skipped = x.skipped + (!late).toNat ∧
    y.dev = { x.dev with calendar := y.dev.calendar, reports := y.dev.reports, lines := y.dev.lines,
                         players := y.dev.players, holding := y.dev.holding, queues := y.dev.queues }

/-- The player of an entry that is skipped ends, when it has one (R112). -/
def endPlayerOf (ended : Option PlayerId) (d : Device) : Device :=
  match ended with
  | some q => endPattern q d
  | none => d

theorem endPlayerOf_frame (ended : Option PlayerId) (d : Device) :
    endPlayerOf ended d = { d with players := (endPlayerOf ended d).players } := by cases ended <;> rfl

theorem endPlayerOf_player (ended : Option PlayerId) (d : Device) (q : PlayerId) :
    (endPlayerOf ended d).player q = if ended = some q then endedPlayer (d.player q) else d.player q := by
  cases ended with
  | none => rfl
  | some p =>
    refine (Device.modPlayer_player d p q endedPlayer).trans ?_
    by_cases h : q = p
    · rw [if_pos h, h, if_pos rfl]
    · rw [if_neg h, if_neg fun h' => h (Option.some.inj h').symm]

/-- An entry that leaves, its drives made, its completions posted and its player ended. -/
theorem passLeaves_of_posts {e : Entry} {m levels : Mask} {d v : Device} (hv : v = { d with lines := v.lines })
    (hdriven : Driven m levels d v) (said : List (CqId × Completion)) (ended : Option PlayerId) :
    PassLeaves e ended m levels said d (freed e (endPlayerOf ended (postAll said v))) := by
  have hsame : SamePosts v d := by rw [hv]; exact ⟨rfl, rfl, rfl⟩
  have hposts : SamePosts (postAll said v) (postAll said d) := hsame.postAll said
  have hframe := postAll_frame said v
  generalize postAll said v = y at hframe hposts
  have hplayers := endPlayerOf_player ended y
  have hend := endPlayerOf_frame ended y
  generalize endPlayerOf ended y = z at hend hplayers
  refine ⟨?_, fun q => ?_, fun l => ?_, ?_, ?_⟩
  · unfold freed
    rw [hend, hframe, hv]
  · have hplayer : y.player q = d.player q := by rw [hframe, hv]; rfl
    rw [← hplayer]
    exact hplayers q
  · refine Eq.trans ?_ (hdriven l)
    rw [hend, hframe]
    rfl
  · refine Eq.trans ?_ hposts.1
    rw [hend]
    rfl
  · refine Eq.trans ?_ hposts.2.1
    rw [hend]
    rfl

theorem driven_none (d : Device) : Driven 0 0 d d := fun l => by rw [inMask_zero, if_neg fun h => Bool.false_ne_true h.1]

theorem passLeaves_undriven (e : Entry) (d : Device) (said : List (CqId × Completion)) (ended : Option PlayerId) :
    PassLeaves e ended 0 0 said d (freed e (endPlayerOf ended (postAll said d))) :=
  passLeaves_of_posts rfl (driven_none d) said ended

/-- A resolution whose entry leaves. -/
theorem stepsOver_of_leaves {e : Entry} {ended : Option PlayerId} {m levels : Mask} {said : List (CqId × Completion)}
    {x y : Resolution} {late : Bool} (h : PassLeaves e ended m levels said x.dev y.dev)
    (hlate : y.late = x.late + late.toNat) (hskipped : y.skipped = x.skipped + (!late).toNat) : StepsOver x y late := by
  refine ⟨hlate, hskipped, ?_⟩
  obtain ⟨hframe, -⟩ := h
  rw [hframe]

theorem retime_passes (x : Resolution) (e : Entry) :
    PassStays x.dev.tb.now { e with due := x.dev.tb.now } x.dev (x.retime e).dev true ∧ StepsOver x (x.retime e) true :=
  ⟨⟨rfl, rfl⟩, rfl, rfl, rfl⟩

/-- A point action or a PRIMING pattern is judged (R36, R38). -/
theorem point_passes (x : Resolution) (e : Entry) (p : Nat) (ended : Option PlayerId) :
    ∃ late, PassJudged x.dev.tb.now p e ended x.dev (x.point e p (endPlayerOf ended)).dev late ∧
      StepsOver x (x.point e p (endPlayerOf ended)) late := by
  unfold Resolution.point judgeLate
  by_cases hwithin : p ≤ e.window
  · rw [if_pos hwithin]
    dsimp only
    obtain ⟨hstays, hsteps⟩ := retime_passes x { e with lateMark := markJudged e false }
    exact ⟨true, ⟨fun _ => hstays, fun h => absurd hwithin (not_le.mpr h), fun h => absurd hwithin (not_le.mpr h)⟩, hsteps⟩
  · rw [if_neg hwithin]
    by_cases hrun : e.lateRun = true
    · rw [if_pos hrun]
      dsimp only
      obtain ⟨hstays, hsteps⟩ := retime_passes x { e with lateMark := markJudged e true }
      exact ⟨true, ⟨fun h => absurd h hwithin, fun _ _ => hstays, fun _ h => absurd (hrun.symm.trans h) (by decide)⟩, hsteps⟩
    · rw [if_neg hrun]
      dsimp only
      have hleaves := passLeaves_undriven e x.dev
        [stepNotice e x.dev .lateSkipped e.tag e.due (lowestLine e.lines) (sat32 p) 0] ended
      exact ⟨false, ⟨fun h => absurd h hwithin, fun _ h => absurd h hrun, fun _ _ => ⟨rfl, hleaves⟩⟩,
        stepsOver_of_leaves hleaves rfl rfl⟩

/-- A train in phase START goes on at its next grid point, or is done (R37). -/
theorem train_passes (x : Resolution) {e : Entry} {ph : PhasePart} {g : TrainPart} (hphase : e.phase = some ph)
    (hstart : ph.phase = .start) :
    StepsOver x (x.train e ph g) true ∧ ∀ m, gridPointsBehind x.dev.tb.now g = m →
      (g.remaining = 0 ∨ m < g.remaining → PassStays x.dev.tb.now { e with
        due := gridPointAt g m, train := some { g with missed := g.missed + m, remaining := g.remaining - m } }
        x.dev (x.train e ph g).dev true) ∧
      (g.remaining ≠ 0 → g.remaining ≤ m → PassLeaves e none 0 0
        (if e.notify || e.lateMark then [stepNotice e x.dev (if e.lateMark then .lateDone else .done) e.tag x.dev.tb.now
          (lowestLine e.lines) (sat32 g.driven) (sat32 (g.missed + g.remaining))] else []) x.dev (x.train e ph g).dev) := by
  have htrain : x.train e ph g = { x with dev := resumeTrain e ph g x.dev, late := x.late + 1 } := by
    rw [Resolution.train, hstart]
  have hstays (m : Nat) (hm : gridPointsBehind x.dev.tb.now g = m) (h : g.remaining = 0 ∨ m < g.remaining) :
      PassStays x.dev.tb.now { e with
        due := gridPointAt g m, train := some { g with missed := g.missed + m, remaining := g.remaining - m } }
        x.dev (x.train e ph g).dev true := by
    have hph : some ({ ph with phase := .start } : PhasePart) = e.phase := by rw [hphase, ← hstart]
    rw [htrain, resumeTrain_of_more hm h, hph]
    exact ⟨rfl, rfl⟩
  have hleaves (m : Nat) (hm : gridPointsBehind x.dev.tb.now g = m) (h0 : g.remaining ≠ 0) (h : g.remaining ≤ m) :
      PassLeaves e none 0 0 (if e.notify || e.lateMark then [stepNotice e x.dev (if e.lateMark then .lateDone else .done)
        e.tag x.dev.tb.now (lowestLine e.lines) (sat32 g.driven) (sat32 (g.missed + g.remaining))] else [])
        x.dev (x.train e ph g).dev := by
    have hfinal : (x.train e ph g).dev = freed e (endPlayerOf none (postAll (if e.notify || e.lateMark then
        [stepNotice e x.dev (if e.lateMark then .lateDone else .done) e.tag x.dev.tb.now (lowestLine e.lines)
          (sat32 g.driven) (sat32 (g.missed + g.remaining))] else []) x.dev)) := by
      rw [htrain, resumeTrain_of_exhausted hm h0 h, finishTrain, postFinal_eq]
      cases e.notify || e.lateMark <;> rfl
    rw [hfinal]
    exact passLeaves_undriven ..
  refine ⟨?_, fun m hm => ⟨hstays m hm, hleaves m hm⟩⟩
  by_cases hmore : g.remaining = 0 ∨ gridPointsBehind x.dev.tb.now g < g.remaining
  · obtain ⟨-, hdev⟩ := hstays _ rfl hmore
    refine ⟨by rw [htrain]; rfl, by rw [htrain]; rfl, ?_⟩
    rw [hdev]
  · rw [not_or, not_lt] at hmore
    exact stepsOver_of_leaves (hleaves _ rfl hmore.1 hmore.2) (by rw [htrain]; rfl) (by rw [htrain]; rfl)

theorem postPattern_eq {e : Entry} (hkind : e.kind = .patternStep) {d v : Device} (hstream : ∀ n, v.stream n = d.stream n)
    (pl : Player) (status : Status) (time : Time) (x1 x2 : W32) : postPattern e.stream pl status time x1 x2 v =
      postAll [stepNotice e d status pl.tag time (lowestLine pl.lines) x1 x2] v := by
  rw [postPattern, postStream, streamCompletion, hstream, stepNotice, hkind]
  rfl

/-- The pattern of a player that is not PRIMING ends with its rest levels (R38, R114). -/
theorem pattern_passes (x : Resolution) {e : Entry} (p : Nat) {q : PlayerId} {pl : Player} (hkind : e.kind = .patternStep)
    (hpl : x.dev.player q = pl) (hstate : pl.state ≠ .priming) :
    PassLeaves e (some q) pl.lines pl.rest [stepNotice e x.dev .timeStepped pl.tag x.dev.tb.now (lowestLine pl.lines)
      (sat32 pl.applied) (sat32 pl.completed)] x.dev (x.pattern e p q).dev ∧ StepsOver x (x.pattern e p q) false := by
  have hframe := applyDrive_frame pl.lines pl.rest x.dev
  have hdriven : Driven pl.lines pl.rest x.dev (applyDrive pl.lines pl.rest x.dev) := driven_applyDrive pl.lines pl.rest x.dev
  have hpattern : x.pattern e p q = { x with
      dev := freed e (endPattern q (postPattern e.stream pl .timeStepped (applyDrive pl.lines pl.rest x.dev).tb.now
        (sat32 pl.applied) (sat32 pl.completed) (applyDrive pl.lines pl.rest x.dev))), skipped := x.skipped + 1 } := by
    unfold Resolution.pattern
    rw [hpl]
    exact if_neg hstate
  generalize applyDrive pl.lines pl.rest x.dev = v at hframe hdriven hpattern
  have hnow : v.tb.now = x.dev.tb.now := by rw [hframe]
  have hstream (n : StreamId) : v.stream n = x.dev.stream n := by rw [hframe]; rfl
  rw [hnow, postPattern_eq hkind hstream] at hpattern
  have hleaves := passLeaves_of_posts (e := e) hframe hdriven [stepNotice e x.dev .timeStepped pl.tag x.dev.tb.now
    (lowestLine pl.lines) (sat32 pl.applied) (sat32 pl.completed)] (some q)
  rw [hpattern]
  exact ⟨hleaves, stepsOver_of_leaves hleaves rfl rfl⟩

/-- The resolution of an entry by its kind and its parts (the table of R35). -/
theorem entry_of_point {x : Resolution} {e : Entry} (p : Nat)
    (h : e.kind = .set ∨ e.kind = .marker ∨ (e.kind = .pulse ∧ InPhase e .start)) : x.entry e p = x.point e p id := by
  unfold Resolution.entry
  rcases h with h | h | ⟨h, w, hphase⟩
  · rw [h]
  · rw [h]
  · rw [h, hphase]
    rfl

theorem entry_of_train {x : Resolution} {e : Entry} (p : Nat) {ph : PhasePart} {g : TrainPart} (h : e.kind = .train)
    (hphase : e.phase = some ph) (htrain : e.train = some g) : x.entry e p = x.train e ph g := by
  unfold Resolution.entry
  rw [h, hphase, htrain]

theorem entry_of_pattern {x : Resolution} {e : Entry} (p : Nat) {q : PlayerId} (h : e.kind = .patternStep)
    (hplayer : e.player = some q) : x.entry e p = x.pattern e p q := by
  unfold Resolution.entry
  rw [h, hplayer]

/-- Every other entry is re-timed (R35). -/
theorem entry_of_other {x : Resolution} {e : Entry} (p : Nat) (hset : e.kind ≠ .set) (hmarker : e.kind ≠ .marker)
    (hpulse : ¬(e.kind = .pulse ∧ InPhase e .start)) (htrain : ¬(e.kind = .train ∧ InPhase e .start ∧ e.train.isSome = true))
    (hpattern : ¬(e.kind = .patternStep ∧ e.player.isSome = true)) : x.entry e p = x.retime e := by
  unfold Resolution.entry
  split
  · exact absurd ‹_› hset
  · exact absurd ‹_› hmarker
  · next hkind =>
    split
    · next ph hphase =>
      obtain ⟨phase, w⟩ := ph
      exact if_neg fun h => hpulse ⟨hkind, w, by rw [hphase]; exact congrArg (fun a => some (PhasePart.mk a w)) h⟩
    · rfl
  · next hkind =>
    split
    · next ph g hphase hg =>
      obtain ⟨phase, w⟩ := ph
      cases phase with
      | start => exact absurd ⟨hkind, ⟨w, hphase⟩, by rw [hg]; rfl⟩ htrain
      | ending => rfl
    · rfl
  · next hkind =>
    split
    · next q hq => exact absurd ⟨hkind, by rw [hq]; rfl⟩ hpattern
    · rfl
  · rfl
  · rfl

/-- What a forward step makes of each entry that it passes over (R35). -/
theorem entry_passes (x : Resolution) (e : Entry) (p : Nat) :
    ∃ late, PassedOver x.dev.tb.now p e x.dev (x.entry e p).dev late ∧ StepsOver x (x.entry e p) late := by
  simp only [passedOver_iff]
  by_cases hpoint : e.kind = .set ∨ e.kind = .marker ∨ (e.kind = .pulse ∧ InPhase e .start)
  · obtain ⟨late, hjudged, hsteps⟩ := point_passes x e p none
    have hentry : x.entry e p = x.point e p (endPlayerOf none) := entry_of_point p hpoint
    rw [hentry]
    refine ⟨late, ⟨fun _ => hjudged, fun h => ?_, fun g back m h => ?_, fun q h => ?_⟩, hsteps⟩
    · rcases hpoint with hk | hk | ⟨hk, w, hphase⟩
      · simp [hk] at h
      · simp [hk] at h
      · simp [hk, InPhase, hphase] at h
    · simp [h] at hpoint
    · simp [h] at hpoint
  by_cases htrain : e.kind = .train ∧ InPhase e .start ∧ e.train.isSome = true
  · obtain ⟨hkind, ⟨w, hphase⟩, hsome⟩ := htrain
    obtain ⟨g, hg⟩ := Option.isSome_iff_exists.mp hsome
    obtain ⟨hsteps, hgoes⟩ := train_passes x (g := g) hphase rfl
    rw [entry_of_train p hkind hphase hg]
    refine ⟨true, ⟨fun h => absurd h hpoint, fun h => ?_, fun g' back m _ _ hg' hpoints => ?_, fun q h => ?_⟩, hsteps⟩
    · simp [hkind, InPhase, hphase] at h
    · obtain rfl : g = g' := Option.some.inj (hg.symm.trans hg')
      obtain ⟨hmore, hdone⟩ := hgoes m (gridPointsBehind_of hpoints)
      exact ⟨hmore, fun h0 h => ⟨rfl, hdone h0 h⟩⟩
    · simp [hkind] at h
  by_cases hpattern : e.kind = .patternStep ∧ e.player.isSome = true
  · obtain ⟨hkind, hsome⟩ := hpattern
    obtain ⟨q, hq⟩ := Option.isSome_iff_exists.mp hsome
    rw [entry_of_pattern p hkind hq]
    by_cases hpriming : (x.dev.player q).state = .priming
    · obtain ⟨late, hjudged, hsteps⟩ := point_passes x e p (some q)
      have hpoint' : x.pattern e p q = x.point e p (endPlayerOf (some q)) := if_pos hpriming
      rw [hpoint']
      refine ⟨late, ⟨fun h => absurd h hpoint, fun h => ?_, fun g back m h => ?_, fun q' _ hq' => ?_⟩, hsteps⟩
      · simp [hkind] at h
      · simp [hkind] at h
      · obtain rfl : q = q' := Option.some.inj (hq.symm.trans hq')
        exact ⟨fun _ => hjudged, fun h => absurd (hpriming.symm.trans h) (by decide)⟩
    · obtain ⟨hleaves, hsteps⟩ := pattern_passes x p hkind rfl hpriming
      refine ⟨false, ⟨fun h => absurd h hpoint, fun h => ?_, fun g back m h => ?_, fun q' _ hq' => ?_⟩, hsteps⟩
      · simp [hkind] at h
      · simp [hkind] at h
      · obtain rfl : q = q' := Option.some.inj (hq.symm.trans hq')
        exact ⟨fun h => absurd h hpriming, fun _ => ⟨rfl, hleaves⟩⟩
  · obtain ⟨hstays, hsteps⟩ := retime_passes x e
    rw [not_or, not_or] at hpoint
    obtain ⟨hset, hmarker, hpulse⟩ := hpoint
    rw [entry_of_other p hset hmarker hpulse htrain hpattern]
    refine ⟨true, ⟨fun h => ?_, fun _ => hstays, fun g back m h hstart hg _ => ?_, fun q h hq => ?_⟩, hsteps⟩
    · exact (h.resolve_left hset).elim (absurd · hmarker) (absurd · hpulse)
    · exact absurd ⟨h, hstart, by rw [hg]; rfl⟩ htrain
    · exact absurd ⟨h, by rw [hq]; rfl⟩ hpattern

/-! ## The whole step -/

/-- The entries that a forward step passes over are resolved one after another (R35). -/
theorem foldl_passes (lateness : Entry → Nat) (es : List Entry) (x : Resolution) :
    let y := es.foldl (fun x e => x.entry e (lateness e)) x
    ∃ late skipped, PassedInTurn x.dev.tb.now (es.map fun e => (e, lateness e)) x.dev y.dev late skipped ∧
      y.late = x.late + late ∧ y.skipped = x.skipped + skipped ∧
      y.dev = { x.dev with calendar := y.dev.calendar, reports := y.dev.reports, lines := y.dev.lines,
                           players := y.dev.players, holding := y.dev.holding, queues := y.dev.queues } := by
  induction es generalizing x with
  | nil => exact ⟨0, 0, ⟨rfl, rfl, rfl⟩, rfl, rfl, rfl⟩
  | cons e es ih =>
    obtain ⟨isLate, hpassed, hlate, hskipped, hframe⟩ := entry_passes x e (lateness e)
    obtain ⟨late, skipped, hrest, hlate', hskipped', hframe'⟩ := ih (x.entry e (lateness e))
    have hnow : (x.entry e (lateness e)).dev.tb.now = x.dev.tb.now := by rw [hframe]
    rw [hnow] at hrest
    rw [List.foldl_cons]
    refine ⟨late + isLate.toNat, skipped + (!isLate).toNat, ⟨_, isLate, late, skipped, hpassed, hrest, rfl, rfl⟩,
      by omega, by omega, ?_⟩
    refine hframe'.trans ?_
    rw [hframe]

end Sys2Proof.Machine
end

section
/-! SUPPORT. TIME_STEP and TIME_SET (1.5): what they refuse, and the step itself. -/

namespace Sys2Proof.Machine

theorem dueNow_iff (d : Device) :
    dueNow d = true ↔ d.tb.mode = .running ∧ ∃ e, d.calendar.head? = some e ∧ e.due = d.tb.now := by
  unfold dueNow Device.isRunning
  cases d.calendar with
  | nil => simp
  | cons e rest => simp

/-- The completions of a step (R12, R35). -/
def stepPosts (r : Record) (u : Device) (late skipped : Nat) : List (CqId × Completion) :=
  [(0, plainCompletion .control (StreamRecord.kind r) .timeStepped (StreamRecord.tag r) u.tb.now 0 u.ctl.head (sat32 late)
      (sat32 skipped)),
    (0, plainCompletion .control (StreamRecord.kind r) .controlDone (StreamRecord.tag r) u.tb.now 0 u.ctl.head 0 0)]

/-- A step posts its completions behind those of its entries, and opens an instant when an entry is due (R12, R24). -/
theorem takeStep_eq (r : Record) (delta : Int) (d : Device) :
    let x := stepTime delta (controlConsume d)
    let y := postAll (stepPosts r x.dev x.late x.skipped) x.dev
    takeStep r delta d = { y with instantOpen := x.dev.instantOpen || dueNow x.dev } := by
  intro x
  have hdone (c : Completion) : controlDone r 0 0 0 (post 0 c x.dev) = post 0 (plainCompletion .control (StreamRecord.kind r)
      .controlDone (StreamRecord.tag r) x.dev.tb.now 0 x.dev.ctl.head 0 0) (post 0 c x.dev) := by
    have hnow : (post 0 c x.dev).tb.now = x.dev.tb.now := by rw [post_tb]
    have hhead : (post 0 c x.dev).ctl.head = x.dev.ctl.head := by rw [post_frame]
    rw [controlDone, postControl, hnow, hhead]
    rfl
  have hframe := postAll_frame (stepPosts r x.dev x.late x.skipped) x.dev
  have htake : takeStep r delta d =
      { postAll (stepPosts r x.dev x.late x.skipped) x.dev with
        instantOpen := (postAll (stepPosts r x.dev x.late x.skipped) x.dev).instantOpen ||
          dueNow (postAll (stepPosts r x.dev x.late x.skipped) x.dev) } := by
    have hposts : postAll (stepPosts r x.dev x.late x.skipped) x.dev = controlDone r 0 0 0 (postControl
        (StreamRecord.kind r) .timeStepped (StreamRecord.tag r) 0 (sat32 x.late) (sat32 x.skipped) x.dev) := (hdone _).symm
    rw [hposts]
    rfl
  rw [htake]
  generalize postAll (stepPosts r x.dev x.late x.skipped) x.dev = y at hframe
  have hopen : y.instantOpen = x.dev.instantOpen := by rw [hframe]
  have hdue : dueNow y = dueNow x.dev := by rw [hframe]; rfl
  dsimp only
  rw [hopen, hdue]

/-- What a step leaves, once its entries have been resolved to `u` (R12, R24, R35). -/
theorem takeStep_does {r : Record} {delta : Int} {d u : Device} {late skipped : Nat}
    (hx : stepTime delta (controlConsume d) = ⟨u, late, skipped⟩) (hopen : u.instantOpen = false) :
    let d' := takeStep r delta d
    d' = { u with instantOpen := d'.instantOpen, holding := d'.holding, queues := d'.queues } ∧
    (d'.instantOpen = true ↔ u.tb.mode = .running ∧ ∃ e, u.calendar.head? = some e ∧ e.due = u.tb.now) ∧
    PostedAll (stepPosts r u late skipped) u d' := by
  intro d'
  have hd' : d' = _ := takeStep_eq r delta d
  rw [hx] at hd'
  dsimp only at hd'
  have hposted : PostedAll (stepPosts r u late skipped) u (postAll (stepPosts r u late skipped) u) := ⟨rfl, rfl⟩
  have hframe := postAll_frame (stepPosts r u late skipped) u
  generalize postAll (stepPosts r u late skipped) u = y at hd' hframe hposted
  clear_value d'
  subst hd'
  refine ⟨?_, ?_, hposted⟩
  · rw [hframe]
  · dsimp only
    rw [hopen, Bool.false_or]
    exact dueNow_iff u

/-- The part after a step's device time has moved, before its entries are resolved. -/
def movedTo (now : Time) (calendar : List Entry) (d : Device) : Device :=
  { d with tb := { d.tb with now := now }, calendar := calendar, ctl := d.ctl.consumed }

/-- A forward step resolves the entries that it passes over, in list order (R12, R35). -/
theorem stepTime_forward {delta : Int} (h : 0 ≤ delta) (d : Device) :
    let k := delta.natAbs
    let now := d.tb.now + BitVec.ofNat 48 k
    let moved := movedTo now (d.calendar.filter (fun e => decide (k ≤ dist d.tb.now e.due))) d
    ∃ u late skipped, stepTime delta (controlConsume d) = ⟨u, late, skipped⟩ ∧
      PassedInTurn now ((d.calendar.filter (fun e => decide (dist d.tb.now e.due < k))).map
        (fun e => (e, k - dist d.tb.now e.due))) moved u late skipped ∧
      u = { moved with calendar := u.calendar, reports := u.reports, lines := u.lines, players := u.players,
                       holding := u.holding, queues := u.queues } := by
  intro k now moved
  have hkept : d.calendar.filter (fun e => !decide (dist d.tb.now e.due < k)) =
      d.calendar.filter (fun e => decide (k ≤ dist d.tb.now e.due)) :=
    List.filter_congr fun e _ => by rw [← decide_not, decide_eq_decide, not_lt]
  obtain ⟨late, skipped, hpassed, hlate, hskipped, hframe⟩ := foldl_passes (fun e => k - dist d.tb.now e.due)
    (d.calendar.filter (fun e => decide (dist d.tb.now e.due < k))) ⟨moved, 0, 0⟩
  refine ⟨_, late, skipped, ?_, hpassed, hframe⟩
  have hstep : stepTime delta (controlConsume d) = (d.calendar.filter (fun e => decide (dist d.tb.now e.due < k))).foldl
      (fun x e => x.entry e (k - dist d.tb.now e.due)) ⟨moved, 0, 0⟩ := by
    rw [stepTime, if_pos h, controlConsume_eq]
    unfold stepForward
    dsimp only
    rw [hkept]
    rfl
  rw [hstep]
  generalize (d.calendar.filter (fun e => decide (dist d.tb.now e.due < k))).foldl
    (fun (x : Resolution) e => x.entry e (k - dist d.tb.now e.due)) (⟨moved, 0, 0⟩ : Resolution) = y at hlate hskipped
  obtain ⟨dev, l, s⟩ := y
  dsimp only at hlate hskipped ⊢
  rw [hlate, hskipped, Nat.zero_add, Nat.zero_add]

/-- A backward step moves device time alone (R39). -/
theorem stepTime_backward {delta : Int} (h : delta < 0) (d : Device) : stepTime delta (controlConsume d) =
    ⟨movedTo (d.tb.now - BitVec.ofNat 48 delta.natAbs) d.calendar d, 0, 0⟩ := by
  rw [stepTime, if_neg (not_le.mpr h), controlConsume_eq]
  rfl

/-- A step whose entries all stay within the horizon (R34). -/
theorem stepAllowed_iff {delta : Int} {d : Device} : stepAllowed delta d = true ↔
    0 ≤ delta ∨ ∀ e ∈ d.calendar, dist d.tb.now e.due + delta.natAbs ≤ 2 ^ 46 := by
  have hhorizon : Config.horizon = 2 ^ 46 := by decide
  rw [stepAllowed, hhorizon, Bool.or_eq_true, decide_eq_true_eq, List.all_eq_true]
  simp only [decide_eq_true_eq]

/-- A step by `delta`, or its refusal; `code` refuses one that is too long (R11, R12, R34). -/
def stepOutcome (code : RefusalCode) (r : Record) (delta : Int) (d : Device) : Device :=
  if 2 ^ 46 < delta.natAbs then refuseControl r code 0 d
  else if stepAllowed delta d then takeStep r delta d else refuseControl r .horizon 0 d

/-- The outcomes of a TIME_STEP (R12, R34). -/
theorem takeTimeStep_eq {r : Record} (hclear : reservedClear .timeStep r = true) (d : Device) : takeTimeStep r d =
    stepOutcome .badField r (StreamRecord.time r).toInt d := by
  have hhorizon : Config.horizon = 2 ^ 46 := by decide
  unfold takeTimeStep stepOutcome
  dsimp only
  rw [hclear, hhorizon, Bool.not_true, Bool.false_or, if_congr decide_eq_true_iff rfl rfl]
  cases stepAllowed (StreamRecord.time r).toInt d <;> rfl

/-- The outcomes of a TIME_SET with entries in the calendar (R11, R34). -/
theorem takeTimeSet_eq {r : Record} (hclear : reservedClear .timeSet r = true) {d : Device} (hfull : d.calendar ≠ []) :
    takeTimeSet r d = stepOutcome .horizon r (StreamRecord.time r - d.tb.now).toInt d := by
  have hhorizon : Config.horizon = 2 ^ 46 := by decide
  have hempty : d.calendar.isEmpty = false := by rw [List.isEmpty_eq_false_iff]; exact hfull
  unfold takeTimeSet stepOutcome
  dsimp only
  rw [hclear, hempty, hhorizon, Bool.not_true, if_neg Bool.false_ne_true, if_neg Bool.false_ne_true]
  by_cases hlong : 2 ^ 46 < (StreamRecord.time r - d.tb.now).toInt.natAbs
  · rw [if_pos hlong, decide_eq_true hlong]
    rfl
  · rw [if_neg hlong, decide_eq_false hlong, Bool.false_or]
    cases stepAllowed (StreamRecord.time r - d.tb.now).toInt d <;> rfl

/-- Settles O56. -/
theorem timeStepsMoveDeviceTime : Obligations.TimeStepsMoveDeviceTime := by
  intro s r c kind delta hsettled hcommand d k refused moved stepped goes
  obtain ⟨hkind, code, hcode, hexec⟩ : StreamRecord.kind r = kind ∧ ∃ code : RefusalCode,
      refusalCode code = (if c = .timeStep then 2 else 5) ∧
        exec c s = .next { s with dev := stepOutcome code r delta d } := by
    rcases hcommand with ⟨rfl, rfl, htakes, rfl⟩ | ⟨rfl, rfl, htakes, hfull, rfl⟩
    · have ⟨_, _, _, _, hclear⟩ := htakes
      refine ⟨kind_of_takes htakes, .badField, rfl, ?_⟩
      rw [← takeTimeStep_eq hclear d]
      exact exec_of_takes hsettled.settled (.inr hsettled) htakes false
    · have ⟨_, _, _, _, hclear⟩ := htakes
      refine ⟨kind_of_takes htakes, .horizon, rfl, ?_⟩
      rw [← takeTimeSet_eq hclear hfull]
      exact exec_of_takes hsettled.settled (.inr hsettled) htakes false
  have hrefused (code : RefusalCode) (h : exec c s = .next { s with dev := refuseControl r code 0 d }) :
      refused (refusalCode code) := by
    refine ⟨_, h, rfl, ?_⟩
    rw [← hkind]
    exact controlAnswered_refuseControl r code 0 d
  have hopen : d.instantOpen = false :=
    (calm_beforeSpace_iff.mp (calm_of_subset hsettled.settled.2 (by decide))).2.2.2
  have hgoes {now : Time} {kept : List Entry} {passed : List (Entry × Nat)} {u : Device} {late skipped : Nat}
      (hexec : exec c s = .next { s with dev := takeStep r delta d })
      (hx : stepTime delta (controlConsume d) = ⟨u, late, skipped⟩)
      (hpassed : PassedInTurn now passed (moved now kept) u late skipped)
      (hu : u = { moved now kept with calendar := u.calendar, reports := u.reports, lines := u.lines,
                                      players := u.players, holding := u.holding, queues := u.queues }) :
      goes now kept passed := by
    obtain ⟨hframe, hinstant, hposted⟩ := takeStep_does (r := r) hx (by rw [hu]; exact hopen)
    have hmode : u.tb.mode = d.tb.mode := by rw [hu]
    have hhead : u.ctl.head = d.ctl.consumed.head := by rw [hu]
    rw [hmode] at hinstant
    rw [stepPosts, hkind, hhead] at hposted
    exact ⟨_, u, late, skipped, hexec, rfl, hpassed, hframe, hinstant, hposted⟩
  refine ⟨fun hlong => ?_, fun hshort hback hout => ?_, fun hshort hback hwithin => ?_, fun hshort hforward => ?_⟩
  · rw [stepOutcome, if_pos hlong] at hexec
    rw [← hcode]
    exact hrefused code hexec
  · obtain ⟨e, he, hbeyond⟩ := hout
    have hbarred : ¬stepAllowed delta d = true := by
      rw [stepAllowed_iff]
      exact fun h => h.elim (fun h => by omega) fun h => absurd (h e he) (not_le.mpr hbeyond)
    rw [stepOutcome, if_neg (not_lt.mpr hshort), if_neg hbarred] at hexec
    exact hrefused .horizon hexec
  · rw [stepOutcome, if_neg (not_lt.mpr hshort), if_pos (stepAllowed_iff.mpr (.inr hwithin))] at hexec
    exact hgoes hexec (stepTime_backward hback d) ⟨rfl, rfl, rfl⟩ rfl
  · rw [stepOutcome, if_neg (not_lt.mpr hshort), if_pos (stepAllowed_iff.mpr (.inl hforward))] at hexec
    obtain ⟨u, late, skipped, hx, hpassed, hu⟩ := stepTime_forward hforward d
    exact hgoes hexec hx hpassed hu

end Sys2Proof.Machine
end
